-- ==== Sys2Proof/Word.lean ====
section
/-! DEFINITION. The words the T415 handles: bytes on the Host Link and characters on the spans. -/

namespace Sys2Proof

/-- One byte of a host frame, or one character of a span frame (R162, R181). -/
abbrev Byte := BitVec 8

/-- A two-byte field, carried high byte first (00_scope.md 0.5). -/
abbrev Word16 := BitVec 16

/-- A span job counter (R82): it wraps at 2^32. -/
abbrev Word32 := BitVec 32

end Sys2Proof
end

