-- ==== Sys2Proof/Syntax.lean ====
section
/-! DEFINITION. The commands of the T415: one constructor for each row of spec/opcode_table.json.

A message row carries the raw fields of its body after the kind (R178, Table 10-9), sequence and originator first, so that
a field outside its range can be sent and is answered MALFORMED (R171). -/

namespace Sys2Proof

/-- The operation of a deferred entry and of its key (R4). -/
inductive Operation where
  | read
  | write
deriving DecidableEq, Repr

/-- The key of a deferred entry (R4). `data` is empty for READ. -/
structure Key where
  originator : Fin 8
  unit       : Fin 4096
  operation  : Operation
  item       : Byte
  length     : Nat
  data       : List Byte
deriving DecidableEq, Repr

/-- One character of a span frame as the span receiver takes it (R63): its value, and whether its stop bit found SDn active. -/
structure LineChar where
  value        : Byte
  framingError : Bool
deriving DecidableEq, Repr

/-- The levels of the strap pins BAUD1 and BAUD0 (R162): true is high. -/
structure Straps where
  baud1 : Bool
  baud0 : Bool
deriving DecidableEq, Repr

/-- The commands: one constructor per row of the table. -/
inductive Instr where
  -- Host messages (chapter 10, Table 10-9)
  | read (seq orig : Byte) (unit : Word16) (item length replaceable : Byte)
  | write (seq orig : Byte) (unit : Word16) (item length : Byte) (data : List Byte)
  | post (seq orig : Byte) (unit : Word16) (item length : Byte) (data : List Byte)
  | cancelKey (seq orig operation : Byte) (unit : Word16) (item length : Byte) (data : List Byte)
  | cancelAll (seq orig : Byte)
  | spanEnable (seq orig span : Byte)
  | spanQuiesce (seq orig span : Byte)
  | spanOff (seq orig span : Byte)
  | setRoute (seq orig index : Byte) (value : List Byte)
  | setDefaultSpan (seq orig index : Byte) (value : List Byte)
  | setRoster (seq orig index : Byte) (value : List Byte)
  | setMissLimit (seq orig index : Byte) (value : List Byte)
  | setPollMs (seq orig index : Byte) (value : List Byte)
  | setRate (seq orig index : Byte) (value : List Byte)
  | setAlertEnable (seq orig index : Byte) (value : List Byte)
  | setAlertReporting (seq orig index : Byte) (value : List Byte)
  | set (seq orig code index : Byte) (value : List Byte)
  | get (seq orig code index : Byte)
  | clear (seq orig : Byte) (conditions : Word16)
  | credit (seq orig grant : Byte)
  | restart (seq orig : Byte)
  -- Host Link events
  | hostFrame (bytes : List Byte)
  | gapFailure
  | txFrameEnd
  -- Power, reset
  | powerOn
  | startUpEnd (straps : Straps)
  | rstnLow
  | rstnHigh (straps : Straps)
  -- Transaction Table timers
  | discardExpiry (key : Key)
  | lingerExpiry (key : Key)
  -- Span events
  | settleExpiry (span : Fin 4)
  | pollTimerExpiry (span : Fin 4)
  | turnaroundComplete (span : Fin 4)
  | commandFrameSent (span : Fin 4) (lineActive : Bool)
  | responseStart (span : Fin 4)
  | responseWindowExpiry (span : Fin 4)
  | responseFrameEnd (span : Fin 4) (chars : List LineChar)
  | backoffExpiry (span : Fin 4)
  | lineFault (span : Fin 4)
  | hrxByteReceived (byte : Byte)
  | responseCharacter37 (span : Fin 4)
  | readyFirstByte
deriving DecidableEq, Repr

end Sys2Proof
end

