-- ==== Sys2Proof/Decode.lean ====
section
/-! DEFINITION. The table gives no row any bits (every "fields" is empty and no row is "fixed"), so no word spells a command.
The byte forms of host messages and span frames are read in Machine/Operands.lean, Machine/HostLink.lean and Machine/Engine.lean. -/

namespace Sys2Proof

/-- The command a word of the opcode table's bits spells: none, since the table gives no row bits. -/
def decodeTableWord (_nbits _w : Nat) : Option Instr := none

end Sys2Proof
end

