-- ==== Sys2Proof/Machine/Bytes.lean ====
section
/-! DEFINITION. Byte order (high byte first, 00_scope.md 0.5) and the two cyclic redundancy checks (R66, R164). -/

namespace Sys2Proof.Machine

/-- A number carried in one byte. -/
def byteOf (n : Nat) : Byte := BitVec.ofNat 8 n

/-- The high byte of a two-byte field. -/
def highByte (w : Word16) : Byte := BitVec.ofNat 8 (w.toNat / 256)

/-- The low byte of a two-byte field. -/
def lowByte (w : Word16) : Byte := BitVec.ofNat 8 (w.toNat % 256)

/-- A two-byte field, high byte first. -/
def bytes16 (w : Word16) : List Byte := [highByte w, lowByte w]

/-- A number carried in two bytes, high byte first. -/
def bytesOf16 (n : Nat) : List Byte := bytes16 (BitVec.ofNat 16 n)

/-- A number carried in four bytes, high byte first. -/
def bytes32 (w : Word32) : List Byte := bytesOf16 (w.toNat / 65536) ++ bytesOf16 (w.toNat % 65536)

/-- The number that two bytes carry, high byte first. -/
def number16 (high low : Byte) : Nat := high.toNat * 256 + low.toNat

/-- A number below n that a byte carries, as an index. -/
def index? (n : Nat) (b : Byte) : Option (Fin n) :=
  if h : b.toNat < n then some ⟨b.toNat, h⟩ else none

/-- One bit step of the CRC-16 (R164): generator x^16 + x^12 + x^5 + 1, most significant bit first. -/
def crc16Bit (c : Word16) : Word16 :=
  if c.msb then (c <<< 1) ^^^ 0x1021#16 else c <<< 1

/-- One byte step of the CRC-16. -/
def crc16Byte (c : Word16) (b : Byte) : Word16 :=
  Nat.repeat crc16Bit 8 (c ^^^ ((b.setWidth 16) <<< 8))

/-- The CRC of a host frame (R164): initial value FFFFh, no final inversion. -/
def crc16 (bytes : List Byte) : Word16 := bytes.foldl crc16Byte 0xFFFF#16

/-- One bit step of the CRC-8 (R66): generator x^8 + x^2 + x + 1. -/
def crc8Bit (c : Byte) : Byte :=
  if c.msb then (c <<< 1) ^^^ 0x07#8 else c <<< 1

/-- The check of a span frame (R66): initial value 00h, no final inversion. -/
def crc8 (chars : List Byte) : Byte := chars.foldl (fun c b => Nat.repeat crc8Bit 8 (c ^^^ b)) 0#8

/-- A counter that stops at its top (R151). -/
def saturate (top n : Nat) : Nat := min top (n + 1)

end Sys2Proof.Machine
end

