-- ==== Sys2Proof/Config.lean ====
section
/-! DEFINITION. What the part fixes: capacities (00_scope.md Table 0-7), codes and the identity record (R153). -/

namespace Sys2Proof.Config

/-- Transaction Table entries (R2). -/
def tableCapacity : Nat := 16
/-- Posts a Post Queue holds (R32). -/
def postCapacity : Nat := 8
/-- Frames the Intake Queue holds (R169). -/
def intakeCapacity : Nat := 4
/-- Slots of the Reply Queue (R173). -/
def replyCapacity : Nat := 8
/-- Entries the Notice Queue holds (R121). -/
def noticeCapacity : Nat := 24
/-- The most credit that is kept (R125, R126). -/
def creditLimit : Nat := 8
/-- The top of every saturating 16-bit counter (R151). -/
def counterTop : Nat := 65535
/-- The top of an alert occurrence count (R132) and of a notice count (R122). -/
def countTop : Nat := 255
/-- The top of the post run count (R48). -/
def runCountTop : Nat := 16
/-- The pass-over count at which a due poll goes first (R50, R56). -/
def passOverLimit : Nat := 2
/-- The most characters a response frame may hold (R63). -/
def responseLimit : Nat := 36

/-- The sync byte of a host frame (R163). -/
def syncByte : Byte := 0xA5#8

/-- Vendor code, part code, silicon revision, span count, table capacity (R153, Table 9-5). -/
def vendorCode : Nat := 0x1C4A
def partCode : Nat := 0x0415
def siliconRevision : Nat := 1
def spanCount : Nat := 4

end Sys2Proof.Config
end

