-- ==== Sys2Proof/Machine/Data.lean ====
section
/-! DEFINITION. The pieces of the machine's state, block by block (00_scope.md Table 0-1), as plain data. -/

namespace Sys2Proof.Machine

/-! ## Transaction Table (chapter 1) -/

/-- Completion outcomes (Table 0-6), in the order of their codes (Table 10-11). -/
inductive CompletionOutcome where
  | ok | dataSuspect | nodeRefused | noResponse | busyExhausted | checkFailed | spanReset | lineFault | spanClosed
deriving DecidableEq, Repr

/-- The completion record (R3). -/
structure CompletionRecord where
  outcome  : CompletionOutcome
  nodeCode : Option Byte
  attempts : Nat
  data     : Option (List Byte)
deriving DecidableEq, Repr

/-- Entry states (Table 1-2). HELD and DELIVERED carry the record (R3) and the interval in ms their timer was started at (R5). -/
inductive EntryState where
  | queued
  | running
  | cancelling
  | held (record : CompletionRecord) (discardMs : Nat)
  | delivered (record : CompletionRecord) (lingerMs : Nat)
deriving DecidableEq, Repr

/-- A deferred entry (Table 1-1). -/
structure Entry where
  key         : Key
  replaceable : Bool
  span        : Fin 4
  node        : Nat
  state       : EntryState
  barrier     : Nat
deriving DecidableEq, Repr

/-- The Transaction Table: entries in acceptance order, oldest first (R2), and its two counters (R29). -/
structure TransactionTable where
  entries      : List Entry
  discardCount : Nat
  reclaimCount : Nat
deriving DecidableEq, Repr

/-! ## Router (chapter 6) -/

/-- A window of the Route Table (Table 6-1). -/
structure Window where
  first : Nat
  last  : Nat
  span  : Fin 4
  base  : Nat
deriving DecidableEq, Repr

/-- The Route Table, an EMPTY entry being none, and the default span, NONE being none (R101, R107). -/
structure Router where
  windows     : Vector (Option Window) 8
  defaultSpan : Option (Fin 4)
deriving DecidableEq, Repr

/-! ## Span Units (chapters 2 to 5 and 7) -/

/-- A post (Table 2-1). -/
structure Post where
  originator : Fin 8
  unit       : Fin 4096
  node       : Nat
  item       : Byte
  length     : Nat
  data       : List Byte
  inProgress : Bool
deriving DecidableEq, Repr

/-- The operation of a command frame (Table 4-2). -/
inductive SpanOperation where
  | read | write | poll
deriving DecidableEq, Repr

/-- The result of an attempt, with what it carries (Table 4-4). A data-bearing GARBLED result carries its data. -/
inductive AttemptResult where
  | done (data : List Byte)
  | busy
  | refused (code : Byte)
  | notice (kind : Byte) (value : Nat)
  | nothing
  | silent
  | garbled (data : Option (List Byte))
deriving DecidableEq, Repr

/-- Engine phases (Table 4-6): SENDING with the command frame that goes out on SDn, the others with the interval in ms of the timer
that can end them. -/
inductive Phase where
  | turnaround (boundMs : Nat)
  | sending (frame : List Byte)
  | window (responseMs : Nat)
  | receiving
  | backoff (backoffMs : Nat)
deriving DecidableEq, Repr

inductive JobKind where
  | deferred | post | poll
deriving DecidableEq, Repr

/-- The job record (Table 4-5). -/
structure Job where
  kind       : JobKind
  node       : Nat
  operation  : SpanOperation
  item       : Byte
  length     : Nat
  data       : List Byte
  limit      : Nat
  begun      : Nat
  lastResult : Option AttemptResult
  phase      : Phase
deriving DecidableEq, Repr

/-- Span states (Table 5-1). -/
inductive SpanState where
  | off | starting | active | quiescing | quiesced | faulted
deriving DecidableEq, Repr

/-- The poll timer's three conditions (R48, R54). -/
inductive PollTimer where
  | stopped
  | running (ms : Nat)
  | expired
deriving DecidableEq, Repr

/-- The line-fault measure (R95): not taken, held at 0 while SDEn is asserted, or growing with the run of SDn at the active level. -/
inductive LineMeasure where
  | stopped | heldAtZero | running
deriving DecidableEq, Repr

inductive NodeStatus where
  | unseen | present | lost
deriving DecidableEq, Repr

/-- A roster record (R112). -/
structure NodeRecord where
  address : Nat
  status  : NodeStatus
  misses  : Nat
deriving DecidableEq, Repr

inductive Rate where
  | r100 | r250 | r500 | r1000
deriving DecidableEq, Repr

inductive ClosedAnswer where
  | refuse | fail
deriving DecidableEq, Repr

/-- The per-span parameters (Table 9-1), ROSTER apart: it is the membership of the roster. -/
structure SpanParams where
  quota        : Nat
  rate         : Rate
  responseMs   : Nat
  backoffMs    : Nat
  settleMs     : Nat
  closedAnswer : ClosedAnswer
  pollMs       : Nat
  missLimit    : Nat
deriving DecidableEq, Repr

/-- Scheduler state (Table 3-1). -/
structure Scheduler where
  runCount  : Nat
  passOver  : Nat
  high      : Fin 9
  low       : Fin 8
  pollTimer : PollTimer
deriving DecidableEq, Repr

/-- Job counters (Table 4-9). -/
structure SpanCounters where
  jobsCompleted   : Word32
  attemptsMade    : Word32
  attemptsBusy    : Word32
  attemptsSilent  : Word32
  attemptsGarbled : Word32
deriving DecidableEq, Repr

/-- One Span Unit. `idle3` says that SDn has been idle for three character times (R64): it follows the relay's own frames, the responses
and whatever else the nodes put on SDn (log 6). `settle` is the running settle timer with its interval (R88); `sde` and `srst` are true
while SDEn and SRSTn are asserted (R61, R84). -/
structure SpanUnit where
  state          : SpanState
  settle         : Option Nat
  measure        : LineMeasure
  idle3          : Bool
  posts          : List Post
  postsDiscarded : Nat
  scheduler      : Scheduler
  job            : Option Job
  counters       : SpanCounters
  roster         : List NodeRecord
  pollPosition   : Nat
  sde            : Bool
  srst           : Bool
  params         : SpanParams
deriving DecidableEq, Repr

/-! ## Notice Queue (chapter 7) -/

/-- A notice entry (Table 7-3). -/
structure Notice where
  span  : Fin 4
  node  : Nat
  kind  : Nat
  value : Nat
  count : Nat
deriving DecidableEq, Repr

/-- The Notice Queue, head first, with the credit (R125) and the lost count (R124). -/
structure NoticeQueue where
  entries : List Notice
  credit  : Nat
  lost    : Nat
deriving DecidableEq, Repr

/-! ## Alert Unit (chapter 8) -/

/-- The ten alert conditions (Table 8-1), in the order of their numbers. -/
inductive AlertCondition where
  | postRefused | postNoResponse | postBusyExhausted | postCheckFailed | postDiscarded
  | completionDiscarded | lineFault | linkError | intakeOverrun | noticeOverflow
deriving DecidableEq, Repr

/-- A first-cause record: which of the five fields are present is its shape (Table 8-3, Table 10-13). -/
inductive FirstCause where
  | none
  | span (span : Fin 4)
  | spanNode (span : Fin 4) (node : Nat)
  | originator (originator : Fin 8)
  | full (span : Fin 4) (node : Nat) (originator : Fin 8) (unit : Fin 4096) (item : Byte)
deriving DecidableEq, Repr

/-- What one condition holds (R131). -/
structure Condition where
  set    : Bool
  enable : Bool
  count  : Nat
  cause  : Option FirstCause
deriving DecidableEq, Repr

/-- The Alert Unit (R131, Table 8-2). -/
structure AlertUnit where
  conditions : Vector Condition 10
  reporting  : Bool
  due        : Bool
  attn       : Bool
deriving DecidableEq, Repr

/-! ## Parameter Store (chapter 9) -/

inductive Tier where
  | low | high
deriving DecidableEq, Repr

/-- The parameters that belong to no one span, route or condition (Table 9-1). -/
structure ParameterStore where
  discardMs : Nat
  lingerMs  : Nat
  attempts  : Nat
  postBurst : Nat
  tier      : Vector Tier 8
deriving DecidableEq, Repr

/-- Relay control states (Table 9-6). -/
inductive Control where
  | held | announcing | serving | draining
deriving DecidableEq, Repr

/-- READY causes (Table 9-2). -/
inductive ReadyCause where
  | powerOn | resetLine | restart
deriving DecidableEq, Repr

/-- Relay control (9.5, 9.7): the control state, the level of RSTn, whether the internal start-up is in progress, and whether a
READY has begun on HTX since power was applied (R160). -/
structure RelayControl where
  state      : Control
  rstnHigh   : Bool
  startUp    : Bool
  readyBegun : Bool
deriving DecidableEq, Repr

/-! ## Link Interface (chapter 10) -/

/-- Host Link bit rates (Table 10-2). -/
inductive BitRate where
  | b115200 | b460800 | b921600 | b3000000
deriving DecidableEq, Repr

/-- The body of a good host frame (R163): the envelope of three bytes, and the fields of the kind. -/
structure Frame where
  kind       : Byte
  sequence   : Byte
  originator : Byte
  fields     : List Byte
deriving DecidableEq, Repr

/-- The receiver (R165). The gap measure runs exactly in COLLECTING. -/
inductive Receiver where
  | hunting
  | collecting (held : List Byte)
deriving DecidableEq, Repr

/-- RETRY_LATER reasons (Table 10-11). -/
inductive RetryReason where
  | tableFull | spanQuota | postQueueFull
deriving DecidableEq, Repr

/-- REFUSED reasons (Table 10-11). -/
inductive RefusedReason where
  | malformed | noRoute | spanClosed | badParameter | badValue | wrongState
deriving DecidableEq, Repr

/-- Replies (Table 0-5, Table 10-10). DEFERRED carries whether the entry is running. -/
inductive Reply where
  | deferred (running : Bool)
  | completion (outcome : CompletionOutcome) (code : Byte) (attempts : Nat) (replay : Bool) (data : List Byte)
  | posted (depth : Nat)
  | retryLater (reason : RetryReason)
  | refused (reason : RefusedReason)
  | cancelled (n : Nat)
  | done (result : Nat)
  | value (code index : Byte) (bytes : List Byte)
deriving DecidableEq, Repr

/-- A slot of the Reply Queue (R173): FILLED while `sending` is false. RESERVED lasts only within a take (R170). `ofRestart`
marks the DONE to a RESTART, at whose end the restart event is taken (R177). -/
structure Slot where
  sequence   : Byte
  originator : Byte
  reply      : Reply
  ofRestart  : Bool
  sending    : Bool
deriving DecidableEq, Repr

/-- What the transmitter is sending. A READY taken as the relay leaves HELD begins its first byte later (R160). -/
inductive Source where
  | reply
  | alert
  | notice
  | ready (begun : Bool)
deriving DecidableEq, Repr

/-- The transmitter (R174): IDLE, or SENDING one frame, with its bytes as they go out on HTX. -/
inductive Transmitter where
  | idle
  | sending (source : Source) (bytes : List Byte)
deriving DecidableEq, Repr

/-- The Link Interface (Table 10-1). -/
structure LinkInterface where
  receiver       : Receiver
  intake         : List Frame
  replies        : List Slot
  transmitter    : Transmitter
  unsolicited    : Byte
  linkErrors     : Nat
  intakeOverruns : Nat
  bitRate        : BitRate
deriving DecidableEq, Repr

end Sys2Proof.Machine
end

