-- ==== Sys2Proof/Machine/ResetValues.lean ====
section
/-! DEFINITION. The values each block takes at power-on and RSTn (Tables 3-1, 7-1, 8-2, 9-1, 10-1). -/

namespace Sys2Proof.Machine

/-- R31. -/
def resetTable : TransactionTable := { entries := [], discardCount := 0, reclaimCount := 0 }

/-- R111. -/
def resetRouter : Router := { windows := Vector.replicate 8 none, defaultSpan := none }

/-- Table 9-1. -/
def resetSpanParams : SpanParams :=
  { quota := 4, rate := .r250, responseMs := 10, backoffMs := 5, settleMs := 100, closedAnswer := .refuse, pollMs := 50
    missLimit := 3 }

/-- Table 3-1: the same at every relay reset and at span OFF (R59). -/
def resetScheduler : Scheduler := { runCount := 0, passOver := 0, high := 8, low := 7, pollTimer := .stopped }

/-- R82. -/
def resetCounters : SpanCounters :=
  { jobsCompleted := 0, attemptsMade := 0, attemptsBusy := 0, attemptsSilent := 0, attemptsGarbled := 0 }

/-- R44, R59, R81, R99, R119. DESIGN CHOICE (log 6), unsafe: SDn is taken as idle, since its nodes are held in reset. -/
def resetSpan : SpanUnit :=
  { state := .off, settle := none, measure := .stopped, idle3 := true, posts := [], postsDiscarded := 0
    scheduler := resetScheduler, job := none, counters := resetCounters, roster := [], pollPosition := 0, sde := false
    srst := true, params := resetSpanParams }

/-- R130. -/
def resetNotices : NoticeQueue := { entries := [], credit := 0, lost := 0 }

/-- R144. -/
def resetCondition : Condition := { set := false, enable := true, count := 0, cause := none }

/-- R144. -/
def resetAlerts : AlertUnit :=
  { conditions := Vector.replicate 10 resetCondition, reporting := false, due := false, attn := false }

/-- Table 9-1: TIER is HIGH for originator 0 and LOW for 1..7. -/
def resetParams : ParameterStore :=
  { discardMs := 500, lingerMs := 100, attempts := 4, postBurst := 4
    tier := #v[.high, .low, .low, .low, .low, .low, .low, .low] }

/-- Table 10-1. DESIGN CHOICE (log 5), unsafe: before the straps are first sampled the bit rate stands at 115200. -/
def resetLink : LinkInterface :=
  { receiver := .hunting, intake := [], replies := [], transmitter := .idle, unsolicited := 0, linkErrors := 0
    intakeOverruns := 0, bitRate := .b115200 }

/-- R160: from power-on the relay is HELD, its start-up in progress, and no READY has begun. DESIGN CHOICE (log 4), unsafe: RSTn
is high. -/
def resetControl : RelayControl := { state := .held, rstnHigh := true, startUp := true, readyBegun := false }

end Sys2Proof.Machine
end

