-- ==== Sys2Proof/Machine/State.lean ====
section
/-! DEFINITION. The machine's state, its outcomes, and the state after reset. -/

namespace Sys2Proof.Machine

/-- The T415: one field per block of Table 0-1, and `pending`, the commands that wait, first in, first out (the model's own). -/
structure State where
  control : RelayControl
  link    : LinkInterface
  table   : TransactionTable
  router  : Router
  spans   : Vector SpanUnit 4
  notices : NoticeQueue
  alerts  : AlertUnit
  params  : ParameterStore
  pending : List Instr
deriving DecidableEq, Repr

/-- Nothing in the spec stops the relay: a line fault is a state of a span (R96), a failed frame is dropped and counted (R167),
a message that cannot be read is answered (R171). So no fault exists. -/
inductive Fault
deriving DecidableEq, Repr

/-- Refusals. -/
inductive Refusal where
  /-- Raised by an arm of exec whose command has no meaning yet; no arm raises it. Safe: nothing runs on. -/
  | notModelled (mnemonic : String)
deriving DecidableEq, Repr

/-- The relay right after power-on (R160): HELD, every block at its power-on values, no command waiting. -/
def State.reset : State :=
  { control := resetControl, link := resetLink, table := resetTable, router := resetRouter
    spans := Vector.replicate 4 resetSpan, notices := resetNotices, alerts := resetAlerts, params := resetParams
    pending := [] }

end Sys2Proof.Machine
end

