-- ==== Sys2Proof/Machine/Flags.lean ====
section
/-! DEFINITION. The Alert Unit's flags (chapter 8): the conditions, alert-due and ATTN. -/

namespace Sys2Proof.Machine

/-- The condition number (Table 8-1). -/
def AlertCondition.number : AlertCondition → Fin 10
  | .postRefused => 0
  | .postNoResponse => 1
  | .postBusyExhausted => 2
  | .postCheckFailed => 3
  | .postDiscarded => 4
  | .completionDiscarded => 5
  | .lineFault => 6
  | .linkError => 7
  | .intakeOverrun => 8
  | .noticeOverflow => 9

/-- The condition numbers in ascending order. -/
def conditionNumbers : List (Fin 10) := [0, 1, 2, 3, 4, 5, 6, 7, 8, 9]

/-- The condition held at a number (R131). -/
def AlertUnit.condition (a : AlertUnit) (n : Fin 10) : Condition := a.conditions[n]

/-- Replace the condition at a number. -/
def AlertUnit.setCondition (a : AlertUnit) (n : Fin 10) (c : Condition) : AlertUnit :=
  { a with conditions := a.conditions.set n c }

/-- The summary of R136 and R137: ALERT_REPORTING is ON and some enabled condition is set. -/
def AlertUnit.summary (a : AlertUnit) : Bool :=
  a.reporting && conditionNumbers.any fun n => (a.condition n).set && (a.condition n).enable

/-- Going from `old` to `new`, some enabled condition goes from clear to set while reporting is ON (R137). -/
def newlySetEnabled (old new : AlertUnit) : Bool :=
  new.reporting && conditionNumbers.any fun n =>
    !(old.condition n).set && (new.condition n).set && (new.condition n).enable

/-- An event takes the alert set from `old` to `new`: ATTN takes the summary (R136), and alert-due is set when the summary
becomes true or an enabled condition becomes set while reporting is ON (R137). -/
def AlertUnit.reevaluate (old new : AlertUnit) : AlertUnit :=
  { new with
    attn := new.summary
    due := new.due || (!old.summary && new.summary) || newlySetEnabled old new }

/-- What a raise does to its condition (R132). -/
def Condition.raised (c : Condition) (cause : FirstCause) : Condition :=
  if c.set then { c with count := saturate Config.countTop c.count }
  else { c with set := true, count := 1, cause := some cause }

/-- A cleared condition (R141); its enable stays. -/
def Condition.cleared (c : Condition) : Condition := { c with set := false, count := 0, cause := none }

/-- A raise, taken as one event (R132, R136, R137). -/
def AlertUnit.raise (a : AlertUnit) (n : AlertCondition) (cause : FirstCause) : AlertUnit :=
  a.reevaluate (a.setCondition n.number ((a.condition n.number).raised cause))

/-- A CLEAR of the conditions whose bit of the list is 1 (R141, R178). Alert-due is not changed (R138). -/
def AlertUnit.clear (a : AlertUnit) (list : Word16) : AlertUnit :=
  let b : AlertUnit :=
    { a with
      conditions := Vector.ofFn fun n : Fin 10 => if list.getLsbD n then (a.condition n).cleared else a.condition n }
  { b with attn := b.summary }

/-- A SET of ALERT_ENABLE (R135). -/
def AlertUnit.setEnable (a : AlertUnit) (n : Fin 10) (on : Bool) : AlertUnit :=
  a.reevaluate (a.setCondition n { a.condition n with enable := on })

/-- A SET of ALERT_REPORTING (R135): OFF also clears alert-due (R138). -/
def AlertUnit.setReporting (a : AlertUnit) (on : Bool) : AlertUnit :=
  if on then a.reevaluate { a with reporting := true }
  else { a with reporting := false, due := false, attn := false }

/-- The transmitter's take (R139): alert-due is cleared, and nothing else changes. -/
def AlertUnit.take (a : AlertUnit) : AlertUnit := { a with due := false }

/-- The Alert Unit after RESTART (R144): every condition clear, enables and reporting kept. -/
def AlertUnit.restarted (a : AlertUnit) : AlertUnit :=
  { a with conditions := Vector.ofFn fun n : Fin 10 => (a.condition n).cleared, due := false, attn := false }

/-- The fields of a first cause after the shape code (Table 10-13). -/
def FirstCause.bytes : FirstCause → List Byte
  | .none => [0#8]
  | .span s => [1#8, byteOf s]
  | .spanNode s n => [2#8, byteOf s, byteOf n]
  | .originator o => [3#8, byteOf o]
  | .full s n o u i => [4#8, byteOf s, byteOf n, byteOf o] ++ bytesOf16 u ++ [i]

/-- One condition record of ALERT and ALERT_SET (Table 10-13). -/
def conditionRecord (n : Fin 10) (c : Condition) : List Byte :=
  [byteOf n, byteOf c.count, if c.enable then 1#8 else 0#8] ++ (c.cause.getD .none).bytes

/-- The numbers of the set conditions, ascending (R139, R143). -/
def AlertUnit.setNumbers (a : AlertUnit) : List (Fin 10) := conditionNumbers.filter fun n => (a.condition n).set

/-- The record count and the records of every set condition (R139, R143, Table 10-12). -/
def AlertUnit.records (a : AlertUnit) : List Byte :=
  byteOf a.setNumbers.length :: a.setNumbers.flatMap fun n => conditionRecord n (a.condition n)

end Sys2Proof.Machine
end

