-- ==== Sys2Proof/Machine/Ops.lean ====
section
/-! DEFINITION. Shared operations over the whole state: updates of one block, alert raises (R132), notice offers (R122). -/

namespace Sys2Proof.Machine

/-! ## Updates of one block -/

def State.setControl (s : State) (x : RelayControl) : State := { s with control := x }
def State.setLink (s : State) (x : LinkInterface) : State := { s with link := x }
def State.setTable (s : State) (x : TransactionTable) : State := { s with table := x }
def State.setRouter (s : State) (x : Router) : State := { s with router := x }
def State.setSpans (s : State) (x : Vector SpanUnit 4) : State := { s with spans := x }
def State.setNotices (s : State) (x : NoticeQueue) : State := { s with notices := x }
def State.setAlerts (s : State) (x : AlertUnit) : State := { s with alerts := x }
def State.setParams (s : State) (x : ParameterStore) : State := { s with params := x }
def State.setPending (s : State) (x : List Instr) : State := { s with pending := x }

/-- The Span Unit of a span. -/
def State.span (s : State) (sp : Fin 4) : SpanUnit := s.spans[sp]

/-- Replace the Span Unit of a span. -/
def State.setSpan (s : State) (sp : Fin 4) (u : SpanUnit) : State := s.setSpans (s.spans.set sp u)

/-- Change the Span Unit of a span. -/
def State.updateSpan (s : State) (sp : Fin 4) (f : SpanUnit → SpanUnit) : State := s.setSpan sp (f (s.span sp))

/-- Replace the table's entries, its counters kept. -/
def State.setEntries (s : State) (es : List Entry) : State := s.setTable { s.table with entries := es }

/-! ## Raises and offers -/

/-- A block raises an alert condition (R132). -/
def State.raise (s : State) (n : AlertCondition) (cause : FirstCause) : State := s.setAlerts (s.alerts.raise n cause)

/-- An entry with the same span, node and kind (R122). -/
def Notice.matches (e : Notice) (span : Fin 4) (node kind : Nat) : Bool :=
  e.span == span && e.node == node && e.kind == kind

/-- Fold an offer into the matching entry (R122): value replaced, count risen, place kept. -/
def coalesce (span : Fin 4) (node kind value : Nat) : List Notice → List Notice
  | [] => []
  | e :: rest =>
    if e.matches span node kind then { e with value := value, count := saturate Config.countTop e.count } :: rest
    else e :: coalesce span node kind value rest

/-- An offer to the Notice Queue (R122): it coalesces, joins at the tail, or is dropped, counted and raised. -/
def State.offer (s : State) (span : Fin 4) (node kind value : Nat) : State :=
  let q := s.notices
  if q.entries.any fun e => e.matches span node kind then
    s.setNotices { q with entries := coalesce span node kind value q.entries }
  else if q.entries.length < Config.noticeCapacity then
    s.setNotices { q with entries := q.entries ++ [{ span, node, kind, value, count := 1 }] }
  else
    (s.setNotices { q with lost := saturate Config.counterTop q.lost }).raise .noticeOverflow (.spanNode span node)

/-- The relay's own notice kinds (R121). -/
def nodeFound : Nat := 64
def nodeLost : Nat := 65

/-! ## Lists -/

/-- Change the first element that satisfies p. -/
def updateFirst {α : Type} (p : α → Bool) (f : α → α) : List α → List α
  | [] => []
  | a :: rest => if p a then f a :: rest else a :: updateFirst p f rest

/-- Remove the first element that satisfies p. -/
def removeFirst {α : Type} (p : α → Bool) : List α → List α
  | [] => []
  | a :: rest => if p a then rest else a :: removeFirst p rest

end Sys2Proof.Machine
end

