-- ==== Sys2Proof/Machine/Routing.lean ====
section
/-! DEFINITION. Unit routing (chapter 6). -/

namespace Sys2Proof.Machine

/-- The Route Table's indexes. -/
def windowNumbers : List (Fin 8) := [0, 1, 2, 3, 4, 5, 6, 7]

/-- The entry at an index of the Route Table (R101). -/
def Router.window (r : Router) (i : Fin 8) : Option Window := r.windows[i]

/-- A window holds a unit (R102). -/
def Window.holds (w : Window) (unit : Nat) : Bool := w.first ≤ unit && unit ≤ w.last

/-- The window that holds a unit: at most one does, since windows never overlap (R101). -/
def Router.windowOf (r : Router) (unit : Nat) : Option Window :=
  windowNumbers.findSome? fun i => (r.window i).filter fun w => w.holds unit

/-- Resolution of a unit number to a span and a node (R102, R103); none is NO_ROUTE. -/
def Router.resolve (r : Router) (unit : Nat) : Option (Fin 4 × Nat) :=
  match r.windowOf unit with
  | some w => some (w.span, w.base + (unit - w.first))
  | none =>
    match r.defaultSpan with
    | some sp => if unit % 16 = 0 then none else some (sp, unit % 16)
    | none => none

/-- Two windows overlap: some unit lies in both (R106). -/
def Window.overlaps (a b : Window) : Bool := a.first ≤ b.last && b.first ≤ a.last

/-- The checks of Table 6-3 that concern one window alone; its span is below 4 by its type. -/
def Window.inRange (w : Window) : Bool :=
  w.first ≤ 4095 && w.last ≤ 4095 && w.first ≤ w.last && 1 ≤ w.base && w.base ≤ 15 && w.base + (w.last - w.first) ≤ 15

/-- The new window overlaps no window held at another index (R106). -/
def Router.clearOf (r : Router) (i : Fin 8) (w : Window) : Bool :=
  windowNumbers.all fun j => j == i || match r.window j with
    | none => true
    | some v => !w.overlaps v

/-- Replace one entry of the Route Table (R105). -/
def Router.setWindow (r : Router) (i : Fin 8) (w : Option Window) : Router := { r with windows := r.windows.set i w }

end Sys2Proof.Machine
end

