-- ==== Sys2Proof/Machine/Roster.lean ====
section
/-! DEFINITION. The roster (chapter 7): reports, statuses, membership and resets. -/

namespace Sys2Proof.Machine

/-- The roster record of a node address. -/
def SpanUnit.node (u : SpanUnit) (address : Nat) : Option NodeRecord := u.roster.find? fun r => r.address == address

/-- Replace the roster record of a node address. -/
def SpanUnit.setNode (u : SpanUnit) (r : NodeRecord) : SpanUnit :=
  { u with roster := updateFirst (fun x => x.address == r.address) (fun _ => r) u.roster }

/-- An answer report (R115); one about an address not in the roster is dropped (R118). -/
def State.answered (s : State) (sp : Fin 4) (address : Nat) : State :=
  match (s.span sp).node address with
  | none => s
  | some r =>
    let s' := s.updateSpan sp fun u => u.setNode { r with status := .present, misses := 0 }
    if r.status = .present then s' else s'.offer sp address nodeFound 0

/-- A miss report (R116); one about an address not in the roster is dropped (R118). -/
def State.missed (s : State) (sp : Fin 4) (address : Nat) : State :=
  match (s.span sp).node address with
  | none => s
  | some r =>
    if r.status = .lost then s
    else if r.misses + 1 < (s.span sp).params.missLimit then
      s.updateSpan sp fun u => u.setNode { r with misses := r.misses + 1 }
    else
      (s.updateSpan sp fun u => u.setNode { r with status := .lost, misses := u.params.missLimit }).offer sp address
        nodeLost 0

/-- A poll's outcome reaches the roster (R76, Table 4-8): NODE_FOUND is offered before the node's own notice (R115). -/
def State.pollOutcome (s : State) (sp : Fin 4) (address : Nat) : AttemptResult → State
  | .silent => s.missed sp address
  | .garbled _ => s.missed sp address
  | .notice kind value =>
    if ((s.span sp).node address).isSome then (s.answered sp address).offer sp address kind.toNat value else s
  | .done _ => s.answered sp address
  | .busy => s.answered sp address
  | .refused _ => s.answered sp address
  | .nothing => s.answered sp address

/-- A node that joins or begins afresh (R98, R113, R119). -/
def unseenNode (address : Nat) : NodeRecord := { address, status := .unseen, misses := 0 }

/-- The roster reset of span OFF, of a fault and of RESTART (R98, R119): members kept. -/
def resetRoster (roster : List NodeRecord) : List NodeRecord := roster.map fun r => unseenNode r.address

/-- The node addresses in ascending order (R112). -/
def nodeAddresses : List Nat := [1, 2, 3, 4, 5, 6, 7, 8, 9, 10, 11, 12, 13, 14, 15]

/-- The membership a SET of ROSTER leaves (R113): a member kept keeps its record, a new one is UNSEEN, ascending and once each. -/
def newRoster (roster : List NodeRecord) (members : List Nat) : List NodeRecord :=
  (nodeAddresses.filter fun a => members.contains a).map fun a =>
    (roster.find? fun r => r.address == a).getD (unseenNode a)

/-- A node clamped by a SET of MISS_LIMIT (R117). -/
def NodeRecord.clamped (r : NodeRecord) (limit : Nat) : NodeRecord :=
  if limit ≤ r.misses then { r with status := .lost, misses := limit } else r

/-- The nodes that a SET of MISS_LIMIT makes LOST (R117), ascending. -/
def newlyLost (roster : List NodeRecord) (limit : Nat) : List Nat :=
  (roster.filter fun r => decide (limit ≤ r.misses) && r.status != .lost).map fun r => r.address

/-- Status codes of NODE_STATUS (R120). -/
def NodeStatus.code : NodeStatus → Byte
  | .unseen => 0#8
  | .present => 1#8
  | .lost => 2#8

end Sys2Proof.Machine
end

