-- ==== Sys2Proof/Machine/Engine.lean ====
section
/-! DEFINITION. The span engine (chapter 4): command frames, the judging of responses, turnarounds and attempts. -/

namespace Sys2Proof.Machine

/-- The operation code of a command frame (Table 10-14). -/
def SpanOperation.code : SpanOperation → Byte
  | .read => 0x01#8
  | .write => 0x02#8
  | .poll => 0x03#8

/-- The command frame of a job, check included (R65, R66, Table 10-14): the same for every attempt. -/
def Job.commandFrame (j : Job) : List Byte :=
  let body := [byteOf j.node, j.operation.code, j.item, byteOf j.length] ++ j.data
  body ++ [crc8 body]

/-- The frame whose check has passed is read by its answer (R67, R69, Table 4-3): `middle` stands between the answer and the
check. -/
def Job.readAnswer (j : Job) (answer : Byte) (middle : List Byte) : AttemptResult :=
  match answer.toNat, middle with
  | 1, _ =>
    if j.operation = .read then if middle.length = j.length then .done middle else .garbled none
    else if middle = [] then .done [] else .garbled none
  | 2, [] => .busy
  | 3, [code] => if code = 0#8 then .garbled none else .refused code
  | 4, [kind, high, low] =>
    if j.operation = .poll ∧ 1 ≤ kind.toNat ∧ kind.toNat ≤ 63 then .notice kind (number16 high low) else .garbled none
  | 5, [] => if j.operation = .poll then .nothing else .garbled none
  | _, _ => .garbled none

/-- A frame that failed its check is data-bearing when its shape is a READ's DONE (R69); the node address is not examined. -/
def Job.dataBearing (j : Job) (answer : Byte) (middle : List Byte) : Option (List Byte) :=
  if j.operation = .read ∧ middle.length = j.length ∧ answer = 0x01#8 then some middle else none

/-- The judging of a response frame (R69). -/
def Job.judge (j : Job) (chars : List LineChar) : AttemptResult :=
  if chars.any (fun c => c.framingError) || decide (Config.responseLimit < chars.length) then .garbled none
  else
    match chars.map (fun c => c.value) with
    | node :: answer :: c :: rest =>
      let tail := c :: rest
      let middle := tail.dropLast
      let check := tail.getLastD 0
      if crc8 (node :: answer :: middle) ≠ check then .garbled (j.dataBearing answer middle)
      else if node ≠ byteOf j.node then .garbled none
      else j.readAnswer answer middle
    | _ => .garbled none

/-- An attempt begins (R71): the first character of the command frame is sent. SDEn is asserted (R61), the line is driven, and
the line measure is held at 0 (R95). -/
def SpanUnit.beginAttempt (u : SpanUnit) (j : Job) : SpanUnit :=
  { u with
    job := some { j with begun := j.begun + 1, phase := .sending j.commandFrame }
    counters := { u.counters with attemptsMade := u.counters.attemptsMade + 1 }
    sde := true
    idle3 := false
    measure := .heldAtZero }

/-- The engine enters TURNAROUND (R64). With SDn already idle for three character times the turnaround is complete as it begins,
and the attempt begins in the same event (Table 4-10). DEDUCED, log 6. -/
def SpanUnit.enterTurnaround (u : SpanUnit) (j : Job) : SpanUnit :=
  if u.idle3 then u.beginAttempt j
  else { u with job := some { j with phase := .turnaround u.params.responseMs } }

/-- An attempt's result is counted (R82) and kept as the last result (R70). -/
def SpanCounters.count (c : SpanCounters) : AttemptResult → SpanCounters
  | .busy => { c with attemptsBusy := c.attemptsBusy + 1 }
  | .silent => { c with attemptsSilent := c.attemptsSilent + 1 }
  | .garbled _ => { c with attemptsGarbled := c.attemptsGarbled + 1 }
  | .done _ => c
  | .refused _ => c
  | .notice _ _ => c
  | .nothing => c

/-- The outcome of a deferred or post job whose last attempt ended so, with the node code and the read data it carries (R72,
R75, Table 4-7). NOTICE and NONE are never the result of such a job (R69); they are read as GARBLED (DEDUCED, log 10). -/
def Job.outcome (j : Job) : AttemptResult → CompletionOutcome × Option Byte × Option (List Byte)
  | .done data => (.ok, none, if j.operation = .read then some data else none)
  | .refused code => (.nodeRefused, some code, none)
  | .busy => (.busyExhausted, none, none)
  | .silent => (.noResponse, none, none)
  | .garbled (some data) => if j.operation = .read then (.dataSuspect, none, some data) else (.checkFailed, none, none)
  | .garbled none => (.checkFailed, none, none)
  | .notice _ _ => (.checkFailed, none, none)
  | .nothing => (.checkFailed, none, none)

/-- DONE and REFUSED end a job at once (R72); otherwise it ends when its attempts are used up (R73, R74). -/
def Job.endsWith (j : Job) : AttemptResult → Bool
  | .done _ => true
  | .refused _ => true
  | _ => decide (j.limit ≤ j.begun)

/-- What a deferred or post job that does not end does next: BACKOFF after BUSY (R73), TURNAROUND after any other result (R74). -/
def SpanUnit.retry (u : SpanUnit) (j : Job) : AttemptResult → SpanUnit
  | .busy => { u with job := some { j with phase := .backoff u.params.backoffMs } }
  | _ => u.enterTurnaround j

end Sys2Proof.Machine
end

