-- ==== Sys2Proof/Machine/Table.lean ====
section
/-! DEFINITION. The Transaction Table's own operations (chapter 1): matching, room, timers, cancel, barriers and cleanup. -/

namespace Sys2Proof.Machine

def EntryState.isQueued : EntryState → Bool
  | .queued => true
  | _ => false

def EntryState.isRunning : EntryState → Bool
  | .running => true
  | _ => false

def EntryState.isCancelling : EntryState → Bool
  | .cancelling => true
  | _ => false

def EntryState.isHeld : EntryState → Bool
  | .held _ _ => true
  | _ => false

def EntryState.isDelivered : EntryState → Bool
  | .delivered _ _ => true
  | _ => false

/-- The entry whose key equals k (R6): keys are unique (R2). -/
def TransactionTable.find (t : TransactionTable) (k : Key) : Option Entry := t.entries.find? fun e => e.key == k

/-- Give the entry of key k a new state. -/
def TransactionTable.setState (t : TransactionTable) (k : Key) (st : EntryState) : TransactionTable :=
  { t with entries := updateFirst (fun e => e.key == k) (fun e => { e with state := st }) t.entries }

/-- Free the entry of key k: the entries after it keep their order (R2). -/
def TransactionTable.free (t : TransactionTable) (k : Key) : TransactionTable :=
  { t with entries := removeFirst (fun e => e.key == k) t.entries }

/-! ## Room (1.3.3) -/

/-- The entry to reclaim among those that satisfy p (R12, R13): the oldest DELIVERED, else the oldest replaceable HELD. -/
def TransactionTable.victim (t : TransactionTable) (p : Entry → Bool) : Option Entry :=
  match t.entries.find? fun e => p e && e.state.isDelivered with
  | some e => some e
  | none => t.entries.find? fun e => p e && e.state.isHeld && e.replaceable

/-- A reclaim (R14): the reclaim counter rises for a HELD entry. -/
def TransactionTable.reclaim (t : TransactionTable) (e : Entry) : TransactionTable :=
  { t.free e.key with
    reclaimCount := if e.state.isHeld then saturate Config.counterTop t.reclaimCount else t.reclaimCount }

/-- How many entries a span holds, in all five states (R12). -/
def TransactionTable.countOn (t : TransactionTable) (sp : Fin 4) : Nat := t.entries.countP fun e => e.span == sp

/-- The quota step (R12). -/
def TransactionTable.quotaStep (t : TransactionTable) (sp : Fin 4) (quota : Nat) : Option TransactionTable :=
  if t.countOn sp < quota then some t else (t.victim fun e => e.span == sp).map t.reclaim

/-- The table step (R13). -/
def TransactionTable.capacityStep (t : TransactionTable) : Option TransactionTable :=
  if t.entries.length < Config.tableCapacity then some t else (t.victim fun _ => true).map t.reclaim

/-- Both room steps (1.3.3): the table with room made, or the reason there is none. -/
def TransactionTable.room (t : TransactionTable) (sp : Fin 4) (quota : Nat) : Except RetryReason TransactionTable :=
  match t.quotaStep sp quota with
  | none => .error .spanQuota
  | some t' =>
    match t'.capacityStep with
    | none => .error .tableFull
    | some t'' => .ok t''

/-- A new entry joins at the end (R2). -/
def TransactionTable.append (t : TransactionTable) (e : Entry) : TransactionTable := { t with entries := t.entries ++ [e] }

/-! ## Cancel (1.6) -/

/-- A cancel of an entry, by its state (R22): what is left of it, and whether it is counted. -/
def Entry.cancelled (e : Entry) : Option Entry × Bool :=
  match e.state with
  | .queued => (none, true)
  | .running => (some { e with state := .cancelling }, true)
  | .cancelling => (some e, false)
  | .held _ _ => (none, true)
  | .delivered _ _ => (none, true)

/-- A cancel of every entry that satisfies p (R22, R23). -/
def TransactionTable.cancel (t : TransactionTable) (p : Entry → Bool) : TransactionTable :=
  { t with entries := t.entries.filterMap fun e => if p e then e.cancelled.1 else some e }

/-- How many entries a cancel frees or makes CANCELLING (R22, R23). -/
def TransactionTable.cancelCount (t : TransactionTable) (p : Entry → Bool) : Nat :=
  t.entries.countP fun e => p e && e.cancelled.2

/-! ## Job end, barriers, cleanup (1.4, 1.7) -/

/-- A post-done claim on a span (R25, R40): every nonzero barrier of the span falls by one. -/
def postDone (sp : Fin 4) (es : List Entry) : List Entry :=
  es.map fun e => if e.span == sp then { e with barrier := e.barrier - 1 } else e

/-- The outcome of a span's deferred job (R17, R18): its RUNNING entry becomes HELD, its CANCELLING entry is freed. -/
def completeJob (sp : Fin 4) (r : CompletionRecord) (discardMs : Nat) (es : List Entry) : List Entry :=
  es.filterMap fun e =>
    if e.span == sp then
      match e.state with
      | .running => some { e with state := .held r discardMs }
      | .cancelling => none
      | _ => some e
    else some e

/-- A record without code or data (R11, R26). -/
def bareRecord (o : CompletionOutcome) (attempts : Nat) : CompletionRecord :=
  { outcome := o, nodeCode := none, attempts := attempts, data := none }

/-- What a cleanup claim leaves of an entry of its span (R26, R27). -/
def Entry.cleanedUp (e : Entry) (o : CompletionOutcome) (attempts discardMs : Nat) : Option Entry :=
  match e.state with
  | .queued => some { e with state := .held (bareRecord o 0) discardMs, barrier := 0 }
  | .running => some { e with state := .held (bareRecord o attempts) discardMs, barrier := 0 }
  | .cancelling => none
  | .held _ _ => some { e with barrier := 0 }
  | .delivered _ _ => some { e with barrier := 0 }

/-- A cleanup claim, one event over all entries of the span (R26, R27). -/
def cleanup (sp : Fin 4) (o : CompletionOutcome) (attempts discardMs : Nat) (es : List Entry) : List Entry :=
  es.filterMap fun e => if e.span == sp then e.cleanedUp o attempts discardMs else some e

/-! ## Counts (R30) -/

/-- The five counts of TABLE_COUNT. -/
def TransactionTable.counts (t : TransactionTable) : List Nat :=
  [t.entries.countP fun e => e.state.isQueued, t.entries.countP fun e => e.state.isRunning,
   t.entries.countP fun e => e.state.isCancelling, t.entries.countP fun e => e.state.isHeld,
   t.entries.countP fun e => e.state.isDelivered]

end Sys2Proof.Machine
end

