-- ==== Sys2Proof/Machine/Scheduling.lean ====
section
/-! DEFINITION. The span scheduler (chapter 3): the decision, the two-tier arbiter and job starts. -/

namespace Sys2Proof.Machine

/-- A deferred entry is eligible at a span's scheduler (R51). -/
def Entry.eligible (e : Entry) (sp : Fin 4) : Bool := e.state.isQueued && e.barrier == 0 && e.span == sp

/-- An originator is a candidate at a decision (R51). -/
def candidate (es : List Entry) (sp : Fin 4) (o : Fin 8) : Bool := es.any fun e => e.eligible sp && e.key.originator == o

/-- The originators in ascending order. -/
def originators : List (Fin 8) := [0, 1, 2, 3, 4, 5, 6, 7]

/-- The positions of the high ring in search order, from the one after the pointer round to the pointer's own (R52). -/
def highRing (pointer : Fin 9) : List (Fin 9) := (List.range 9).map fun k => Fin.ofNat 9 (pointer.val + 1 + k)

/-- The positions of the low ring in search order (R52). -/
def lowRing (pointer : Fin 8) : List (Fin 8) := (List.range 8).map fun k => Fin.ofNat 8 (pointer.val + 1 + k)

/-- The originator chosen at step 3, with the high and low pointers it leaves (R52, R53). -/
def arbitrate (tier : Vector Tier 8) (cand : Fin 8 → Bool) (high : Fin 9) (low : Fin 8) :
    Option (Fin 8 × Fin 9 × Fin 8) :=
  let isHigh (o : Fin 8) : Bool := cand o && tier[o] == .high
  let isLow (o : Fin 8) : Bool := cand o && tier[o] == .low
  let highMatch (p : Fin 9) : Bool := if h : p.val < 8 then isHigh ⟨p.val, h⟩ else originators.any isLow
  match (highRing high).find? highMatch with
  | none => none
  | some p =>
    if h : p.val < 8 then some (⟨p.val, h⟩, p, low)
    else
      match (lowRing low).find? isLow with
      | none => none
      | some o => some (o, 8, o)

/-- A poll is due on a span (R54). -/
def SpanUnit.pollDue (u : SpanUnit) : Bool :=
  u.scheduler.pollTimer == .expired && !u.roster.isEmpty && u.params.pollMs != 0

/-- The node to poll (R114): the smallest roster address above the poll position, else the smallest of all. -/
def SpanUnit.pollNode (u : SpanUnit) : Nat :=
  match u.roster.find? fun r => u.pollPosition < r.address with
  | some r => r.address
  | none => (u.roster.head?.map fun r => r.address).getD 0

/-- A job record as a job starts, before its first attempt (R71). -/
def newJob (kind : JobKind) (node : Nat) (operation : SpanOperation) (item : Byte) (length : Nat) (data : List Byte)
    (limit : Nat) : Job :=
  { kind, node, operation, item, length, data, limit, begun := 0, lastResult := none, phase := .turnaround 0 }

/-- Step 1 or 4 (R54, R76): the poll timer restarts, the pass-over count becomes 0, the poll position moves. -/
def SpanUnit.startPoll (u : SpanUnit) : SpanUnit :=
  { u with
    scheduler := { u.scheduler with pollTimer := .running u.params.pollMs, passOver := 0 }
    pollPosition := u.pollNode }.enterTurnaround (newJob .poll u.pollNode .poll 0#8 0 [] 1)

/-- The pass-over count rises at a decision that passes over a due poll (R50, R56). -/
def SpanUnit.passOverAfter (u : SpanUnit) : Nat :=
  if u.pollDue then u.scheduler.passOver + 1 else u.scheduler.passOver

/-- Step 2 (R33, R50): the head post's mark becomes yes and the post run count rises. -/
def SpanUnit.startPost (u : SpanUnit) (attempts : Nat) : SpanUnit :=
  match u.posts with
  | [] => u
  | p :: rest =>
    { u with
      posts := { p with inProgress := true } :: rest
      scheduler := { u.scheduler with
        runCount := saturate Config.runCountTop u.scheduler.runCount
        passOver := u.passOverAfter } }.enterTurnaround
      (newJob .post p.node .write p.item p.length p.data attempts)

/-- The operation of an entry's command frames (R65). -/
def onSpan : Operation → SpanOperation
  | .read => .read
  | .write => .write

/-- Step 3 (R16, R50, R53) for a chosen entry: the post run count becomes 0 and the pointers move. -/
def SpanUnit.startDeferred (u : SpanUnit) (e : Entry) (high : Fin 9) (low : Fin 8) (attempts : Nat) : SpanUnit :=
  { u with
    scheduler := { u.scheduler with runCount := 0, passOver := u.passOverAfter, high := high, low := low } }.enterTurnaround
    (newJob .deferred e.node (onSpan e.key.operation) e.key.item e.key.length e.key.data attempts)

/-- Step 3 of the decision: the arbiter chooses an originator, and its oldest eligible entry becomes RUNNING (R16, R51). -/
def State.startDeferred (s : State) (sp : Fin 4) : State :=
  let u := s.span sp
  match arbitrate s.params.tier (candidate s.table.entries sp) u.scheduler.high u.scheduler.low with
  | none => s
  | some (o, high, low) =>
    match s.table.entries.find? fun e => e.eligible sp && e.key.originator == o with
    | none => s
    | some e =>
      (s.setTable (s.table.setState e.key .running)).setSpan sp (u.startDeferred e high low s.params.attempts)

/-- The decision of a free engine (R50, Table 3-2). -/
def State.decision (s : State) (sp : Fin 4) : State :=
  let u := s.span sp
  let waiting := s.table.entries.any fun e => e.eligible sp
  if u.pollDue && u.scheduler.passOver == Config.passOverLimit then s.setSpan sp u.startPoll
  else if !u.posts.isEmpty && (decide (u.scheduler.runCount < s.params.postBurst) || !waiting) then
    s.setSpan sp (u.startPost s.params.attempts)
  else if waiting then s.startDeferred sp
  else if u.pollDue then s.setSpan sp u.startPoll
  else s

/-- A decision is made when the span is ACTIVE and its engine has no job (R49). -/
def State.schedule (s : State) (sp : Fin 4) : State :=
  if (s.span sp).state = .active ∧ (s.span sp).job = none then s.decision sp else s

end Sys2Proof.Machine
end

