-- ==== Sys2Proof/Machine/Outcomes.lean ====
section
/-! DEFINITION. The end of an attempt and of a job: hand-over, reports, counters, quiesce and decision (R72 to R77, R38 to R40, R91). -/

namespace Sys2Proof.Machine

/-- The alert condition of a failed post (Table 2-3). A post job cannot end DATA_SUSPECT, nor with an outcome that no job
reports (R17). -/
def postFailure : CompletionOutcome → Option AlertCondition
  | .nodeRefused => some .postRefused
  | .noResponse => some .postNoResponse
  | .busyExhausted => some .postBusyExhausted
  | .checkFailed => some .postCheckFailed
  | .ok => none
  | .dataSuspect => none
  | .spanReset => none
  | .lineFault => none
  | .spanClosed => none

/-- The first cause that names a post (Table 8-3). -/
def Post.cause (p : Post) (sp : Fin 4) : FirstCause := .full sp p.node p.originator p.unit p.item

/-- The first cause that names an entry (Table 8-3). -/
def Entry.cause (e : Entry) : FirstCause := .full e.span e.node e.key.originator e.key.unit e.key.item

/-- A post job's outcome (R38 to R40): the head leaves, the next head's mark is no, a failure is raised, and the post-done claim
lowers the barriers of the span. -/
def State.postEnded (s : State) (sp : Fin 4) (o : CompletionOutcome) : State :=
  match (s.span sp).posts with
  | [] => s
  | p :: rest =>
    let s := s.updateSpan sp fun u => { u with posts := rest }
    let s := s.setEntries (postDone sp s.table.entries)
    match postFailure o with
    | none => s
    | some n => s.raise n (p.cause sp)

/-- A deferred job's outcome reaches the Transaction Table (R17, R18). -/
def State.deferredEnded (s : State) (sp : Fin 4) (r : CompletionRecord) : State :=
  s.setEntries (completeJob sp r s.params.discardMs s.table.entries)

/-- The engine is free again and JOBS_COMPLETED rises (R77, R82). -/
def SpanUnit.jobDone (u : SpanUnit) : SpanUnit :=
  { u with job := none, counters := { u.counters with jobsCompleted := u.counters.jobsCompleted + 1 } }

/-- After a hand-over: in QUIESCING the span becomes QUIESCED (R91), else the scheduler decides (R49). -/
def State.jobEnded (s : State) (sp : Fin 4) : State :=
  let s := s.updateSpan sp SpanUnit.jobDone
  if (s.span sp).state = .quiescing then s.updateSpan sp fun u => { u with state := .quiesced } else s.schedule sp

/-- Whether the outcome of a deferred or post job is an answer from its node (R77). -/
def isAnswer (o : CompletionOutcome) : Bool := o != .noResponse

/-- A job's outcome is handed over in one event (R77). -/
def State.handOver (s : State) (sp : Fin 4) (j : Job) (r : AttemptResult) : State :=
  match j.kind with
  | .poll => (s.pollOutcome sp j.node r).jobEnded sp
  | .deferred =>
    let out := j.outcome r
    let s := s.deferredEnded sp { outcome := out.1, nodeCode := out.2.1, attempts := j.begun, data := out.2.2 }
    (if isAnswer out.1 then s.answered sp j.node else s).jobEnded sp
  | .post =>
    let out := j.outcome r
    let s := s.postEnded sp out.1
    (if isAnswer out.1 then s.answered sp j.node else s).jobEnded sp

/-- An attempt ends with a result (Table 4-4): it is counted and kept, and the job ends, backs off or tries again. A poll job is
one attempt (R76). -/
def State.attemptEnded (s : State) (sp : Fin 4) (r : AttemptResult) : State :=
  match (s.span sp).job with
  | none => s
  | some j =>
    let j := { j with lastResult := some r }
    let u := { s.span sp with job := some j, counters := (s.span sp).counters.count r }
    if j.kind = .poll ∨ j.endsWith r then (s.setSpan sp u).handOver sp j r
    else s.setSpan sp (u.retry j r)

end Sys2Proof.Machine
end

