-- ==== Sys2Proof/Machine/SpanControl.lean ====
section
/-! DEFINITION. Span states and span control (chapter 5): enable, quiesce, off, settle expiry and line fault. -/

namespace Sys2Proof.Machine

/-- An open span (R85). -/
def SpanState.isOpen : SpanState → Bool
  | .off => false
  | .starting => true
  | .active => true
  | .quiescing => true
  | .quiesced => true
  | .faulted => false

/-- Span state codes (Table 5-1). -/
def SpanState.code : SpanState → Byte
  | .off => 0#8
  | .starting => 1#8
  | .active => 2#8
  | .quiescing => 3#8
  | .quiesced => 4#8
  | .faulted => 5#8

/-- An OFF span is enabled (R87, R55): SRSTn released, settle timer started, supervision begun, poll timer expired unless
POLL_MS is 0. SDn is taken as idle (log 6). -/
def SpanUnit.enabled (u : SpanUnit) : SpanUnit :=
  { u with
    state := .starting
    srst := false
    settle := some u.params.settleMs
    measure := .running
    idle3 := true
    scheduler := { u.scheduler with pollTimer := if u.params.pollMs = 0 then .stopped else .expired } }

/-- SPAN ENABLE (R87). -/
def State.spanEnable (s : State) (sp : Fin 4) : State × Reply :=
  match (s.span sp).state with
  | .off => (s.updateSpan sp SpanUnit.enabled, .done 0)
  | .starting => (s, .done 0)
  | .active => (s, .done 0)
  | .quiescing => (s.updateSpan sp fun u => { u with state := .active }, .done 0)
  | .quiesced => ((s.updateSpan sp fun u => { u with state := .active }).schedule sp, .done 0)
  | .faulted => (s, .refused .wrongState)

/-- SPAN QUIESCE (R90). -/
def State.spanQuiesce (s : State) (sp : Fin 4) : State × Reply :=
  match (s.span sp).state with
  | .active =>
    (s.updateSpan sp fun u => { u with state := if u.job.isSome then .quiescing else .quiesced }, .done 0)
  | .quiescing => (s, .done 0)
  | .quiesced => (s, .done 0)
  | .off => (s, .refused .wrongState)
  | .starting => (s, .refused .wrongState)
  | .faulted => (s, .refused .wrongState)

/-- The attempts begun for a deferred job in progress (R26, R78). -/
def SpanUnit.attemptsBegun (u : SpanUnit) : Nat :=
  match u.job with
  | some j => if j.kind = .deferred then j.begun else 0
  | none => 0

/-- A span closes: its job is aborted (R78), its posts discarded and counted (R41), its roster reset (R98), its settle timer and
supervision stopped, SRSTn asserted and SDEn released. -/
def SpanUnit.shut (u : SpanUnit) (target : SpanState) (scheduler : Scheduler) : SpanUnit :=
  { u with
    state := target
    srst := true
    sde := false
    settle := none
    measure := .stopped
    job := none
    posts := []
    postsDiscarded := min Config.counterTop (u.postsDiscarded + u.posts.length)
    roster := resetRoster u.roster
    scheduler := scheduler }

/-- The cleanup claim of a span (R26, R27). -/
def State.cleanupClaim (s : State) (sp : Fin 4) (o : CompletionOutcome) (attempts : Nat) : State :=
  s.setEntries (cleanup sp o attempts s.params.discardMs s.table.entries)

/-- POST_DISCARDED is raised once, for the oldest of the posts discarded, if there is one (R41). -/
def State.raiseDiscarded (s : State) (sp : Fin 4) (posts : List Post) : State :=
  match posts with
  | [] => s
  | p :: _ => s.raise .postDiscarded (p.cause sp)

/-- A span leaves its open states, by OFF or by a fault, in one event (R92, R96). -/
def State.shutSpan (s : State) (sp : Fin 4) (target : SpanState) (scheduler : Scheduler) (o : CompletionOutcome) : State :=
  let u := s.span sp
  ((s.setSpan sp (u.shut target scheduler)).cleanupClaim sp o u.attemptsBegun).raiseDiscarded sp u.posts

/-- SPAN OFF (R92, R93). From FAULTED the cleanup claim finds nothing to change, and the roster stays as the fault left it. -/
def State.spanOff (s : State) (sp : Fin 4) : State × Reply :=
  match (s.span sp).state with
  | .off => (s, .done 0)
  | .starting => (s.shutSpan sp .off resetScheduler .spanReset, .done 0)
  | .active => (s.shutSpan sp .off resetScheduler .spanReset, .done 0)
  | .quiescing => (s.shutSpan sp .off resetScheduler .spanReset, .done 0)
  | .quiesced => (s.shutSpan sp .off resetScheduler .spanReset, .done 0)
  | .faulted =>
    ((s.updateSpan sp fun u => { u with state := .off, scheduler := resetScheduler }).cleanupClaim sp .spanReset 0, .done 0)

/-- A line fault (R96): declared on an open span alone (R95, R97). Of the scheduler state, only the poll timer changes. It is taken in
every phase, SENDING too, and the measure is not read: DESIGN CHOICE, log 11. -/
def State.lineFault (s : State) (sp : Fin 4) : State :=
  let u := s.span sp
  if u.state.isOpen then
    ((s.shutSpan sp .faulted { u.scheduler with pollTimer := .stopped } .lineFault).updateSpan sp fun u =>
      { u with idle3 := false }).raise .lineFault (.span sp)
  else s

/-- The settle timer's expiry (R88): it runs in STARTING alone. -/
def State.settleExpired (s : State) (sp : Fin 4) : State :=
  if (s.span sp).state = .starting then
    (s.updateSpan sp fun u => { u with state := .active, settle := none }).schedule sp
  else s

/-- The poll timer's expiry (R54, R49): it brings a decision while the roster is non-empty. -/
def State.pollTimerExpired (s : State) (sp : Fin 4) : State :=
  match (s.span sp).scheduler.pollTimer with
  | .running _ =>
    let s := s.updateSpan sp fun u => { u with scheduler := { u.scheduler with pollTimer := .expired } }
    if (s.span sp).roster.isEmpty then s else s.schedule sp
  | .stopped => s
  | .expired => s

/-- A Span Unit after RESTART (R99, R119, Tables 3-1 and 7-1): its parameters and its roster's membership are kept. -/
def SpanUnit.restarted (u : SpanUnit) : SpanUnit :=
  { resetSpan with params := u.params, roster := resetRoster u.roster }

end Sys2Proof.Machine
end

