-- ==== Sys2Proof/Machine/Acceptance.lean ====
section
/-! DEFINITION. What the Transaction Table and the Post Queues do with READ, WRITE, POST and CANCEL (1.3, 1.6, 2.2). -/

namespace Sys2Proof.Machine

/-- The COMPLETION reply built from a record (R8). -/
def CompletionRecord.reply (r : CompletionRecord) (replay : Bool) : Reply :=
  .completion r.outcome (r.nodeCode.getD 0#8) r.attempts replay (r.data.getD [])

/-- A repeat is answered from its entry, by the entry's state (R7, R8, R9). -/
def State.answerRepeat (s : State) (e : Entry) : State × Reply :=
  match e.state with
  | .queued => (s, .deferred false)
  | .running => (s, .deferred true)
  | .cancelling => (s.setTable (s.table.setState e.key .running), .deferred true)
  | .held r _ =>
    if s.params.lingerMs = 0 then (s.setTable (s.table.free e.key), r.reply false)
    else (s.setTable (s.table.setState e.key (.delivered r s.params.lingerMs)), r.reply false)
  | .delivered r _ => (s, r.reply true)

/-- A new entry, at its acceptance (R15, R11). -/
def newEntry (k : Key) (replaceable : Bool) (sp : Fin 4) (node : Nat) (st : EntryState) (barrier : Nat) : Entry :=
  { key := k, replaceable, span := sp, node, state := st, barrier }

/-- A new request on an open span (R12, R13, R15). Created with barrier 0, it brings a decision if the engine is free (R49). -/
def State.acceptOpen (s : State) (k : Key) (replaceable : Bool) (sp : Fin 4) (node : Nat) : State × Reply :=
  match s.table.room sp (s.span sp).params.quota with
  | .error r => (s, .retryLater r)
  | .ok t =>
    let barrier := (s.span sp).posts.length
    let s := s.setTable (t.append (newEntry k replaceable sp node .queued barrier))
    (if barrier = 0 then s.schedule sp else s, .deferred false)

/-- A new request on a closed span (R11): refused, or under FAIL created HELD with SPAN_CLOSED. -/
def State.acceptClosed (s : State) (k : Key) (replaceable : Bool) (sp : Fin 4) (node : Nat) : State × Reply :=
  match (s.span sp).params.closedAnswer with
  | .refuse => (s, .refused .spanClosed)
  | .fail =>
    match s.table.room sp (s.span sp).params.quota with
    | .error r => (s, .retryLater r)
    | .ok t =>
      (s.setTable (t.append (newEntry k replaceable sp node (.held (bareRecord .spanClosed 0) s.params.discardMs) 0)),
        .deferred false)

/-- A READ or WRITE handed to the Transaction Table (R6, R10, R11). -/
def State.request (s : State) (k : Key) (replaceable : Bool) : State × Reply :=
  match s.table.find k with
  | some e => s.answerRepeat e
  | none =>
    match s.router.resolve k.unit with
    | none => (s, .refused .noRoute)
    | some (sp, node) =>
      if (s.span sp).state.isOpen then s.acceptOpen k replaceable sp node else s.acceptClosed k replaceable sp node

/-- A POST (R34, R35, R36, Table 2-2). -/
def State.acceptPost (s : State) (originator : Fin 8) (unit : Fin 4096) (item : Byte) (length : Nat) (data : List Byte) :
    State × Reply :=
  match s.router.resolve unit with
  | none => (s, .refused .noRoute)
  | some (sp, node) =>
    let u := s.span sp
    let p : Post := { originator, unit, node, item, length, data, inProgress := false }
    if u.state.isOpen then
      if Config.postCapacity ≤ u.posts.length then (s, .retryLater .postQueueFull)
      else
        ((s.setSpan sp { u with posts := u.posts ++ [p] }).schedule sp, .posted (u.posts.length + 1))
    else
      match u.params.closedAnswer with
      | .refuse => (s, .refused .spanClosed)
      | .fail =>
        ((s.setSpan sp { u with postsDiscarded := saturate Config.counterTop u.postsDiscarded }).raise .postDiscarded
          (p.cause sp), .posted 0)

/-- A CANCEL of the entries that satisfy p (R22, R23). -/
def State.cancel (s : State) (p : Entry → Bool) : State × Reply :=
  (s.setTable (s.table.cancel p), .cancelled (s.table.cancelCount p))

/-- A discard timer's expiry (R19): a stopped timer has no effect (R5). -/
def State.discardExpired (s : State) (k : Key) : State :=
  match s.table.find k with
  | none => s
  | some e =>
    if e.state.isHeld then
      (s.setTable { s.table.free k with discardCount := saturate Config.counterTop s.table.discardCount }).raise
        .completionDiscarded e.cause
    else s

/-- A linger timer's expiry (R20): a stopped timer has no effect (R5). -/
def State.lingerExpired (s : State) (k : Key) : State :=
  match s.table.find k with
  | none => s
  | some e => if e.state.isDelivered then s.setTable (s.table.free k) else s

end Sys2Proof.Machine
end

