-- ==== Sys2Proof/Machine/Operands.lean ====
section
/-! DEFINITION. Operand forms: the bodies of host messages (R171, R178), parameter codes and indexes (R145, R147) and the values a
SET carries (R180). -/

namespace Sys2Proof.Machine

/-! ## Host messages -/

inductive SpanAction where
  | enable | quiesce | off
deriving DecidableEq, Repr

/-- A host message that has passed the envelope checks (Table 10-9). -/
inductive HostMessage where
  | request (key : Key) (replaceable : Bool)
  | post (unit : Fin 4096) (item : Byte) (length : Nat) (data : List Byte)
  | cancelKey (key : Key)
  | cancelAll
  | span (span : Fin 4) (action : SpanAction)
  | set (code index : Byte) (value : List Byte)
  | get (code index : Byte)
  | clear (conditions : Word16)
  | credit (grant : Nat)
  | restart
deriving DecidableEq, Repr

/-- A data length is 1..32 (Table 10-5). -/
def lengthOk (length : Byte) : Bool := decide (1 ≤ length.toNat) && decide (length.toNat ≤ 32)

/-- The two bytes of a unit number, which is 0..4095 (Table 10-5). -/
def unit? (high low : Byte) : Option (Fin 4096) :=
  if h : number16 high low < 4096 then some ⟨number16 high low, h⟩ else none

/-- Unit, item, length and data, as WRITE, POST and CANCEL carry them: the body's length must fit (Table 10-5). -/
def readWriteFields (fields : List Byte) : Option (Fin 4096 × Byte × Nat × List Byte) :=
  match fields with
  | u1 :: u0 :: item :: length :: data =>
    match unit? u1 u0 with
    | none => none
    | some unit =>
      if lengthOk length ∧ data.length = length.toNat then some (unit, item, length.toNat, data) else none
  | _ => none

/-- Unit, item and length, as READ and CANCEL of a READ carry them. -/
def readReadFields (u1 u0 item length : Byte) : Option (Fin 4096 × Byte × Nat) :=
  match unit? u1 u0 with
  | none => none
  | some unit => if lengthOk length then some (unit, item, length.toNat) else none

/-- The fields of a READ (Table 10-9). -/
def parseRead (o : Fin 8) : List Byte → Option HostMessage
  | [u1, u0, item, length, flag] =>
    if flag = 0#8 ∨ flag = 1#8 then
      (readReadFields u1 u0 item length).map fun f =>
        .request { originator := o, unit := f.1, operation := .read, item := f.2.1, length := f.2.2, data := [] }
          (flag == 1#8)
    else none
  | _ => none

/-- The fields of a WRITE: its entry is never replaceable (Table 1-1). -/
def parseWrite (o : Fin 8) (fields : List Byte) : Option HostMessage :=
  (readWriteFields fields).map fun f =>
    .request { originator := o, unit := f.1, operation := .write, item := f.2.1, length := f.2.2.1, data := f.2.2.2 } false

/-- The fields of a POST. -/
def parsePost (fields : List Byte) : Option HostMessage :=
  (readWriteFields fields).map fun f => .post f.1 f.2.1 f.2.2.1 f.2.2.2

/-- The fields of a CANCEL, form first: 0 KEY, 1 ALL; the operation is 1 READ or 2 WRITE. -/
def parseCancel (o : Fin 8) : List Byte → Option HostMessage
  | [] => none
  | form :: rest =>
    if form = 1#8 then if rest = [] then some .cancelAll else none
    else if form = 0#8 then
      match rest with
      | [] => none
      | op :: rest =>
        if op = 1#8 then
          match rest with
          | [u1, u0, item, length] =>
            (readReadFields u1 u0 item length).map fun f =>
              .cancelKey { originator := o, unit := f.1, operation := .read, item := f.2.1, length := f.2.2, data := [] }
          | _ => none
        else if op = 2#8 then
          (readWriteFields rest).map fun f =>
            .cancelKey
              { originator := o, unit := f.1, operation := .write, item := f.2.1, length := f.2.2.1, data := f.2.2.2 }
        else none
    else none

/-- The action code of a SPAN message. -/
def spanAction? (b : Byte) : Option SpanAction :=
  match b.toNat with
  | 0 => some .enable
  | 1 => some .quiesce
  | 2 => some .off
  | _ => none

/-- The fields of a SPAN message. -/
def parseSpan : List Byte → Option HostMessage
  | [span, action] =>
    match index? 4 span, spanAction? action with
    | some sp, some a => some (.span sp a)
    | _, _ => none
  | _ => none

/-- The fields of a SET: a code and an index, and a value of any length. -/
def parseSet : List Byte → Option HostMessage
  | code :: index :: value => some (.set code index value)
  | _ => none

/-- The fields of a GET. -/
def parseGet : List Byte → Option HostMessage
  | [code, index] => some (.get code index)
  | _ => none

/-- The fields of a CLEAR: bits 10 to 15 of the list are 0. -/
def parseClear : List Byte → Option HostMessage
  | [high, low] => if number16 high low < 1024 then some (.clear (BitVec.ofNat 16 (number16 high low))) else none
  | _ => none

/-- The fields of a CREDIT: the grant is 0..8. -/
def parseCredit : List Byte → Option HostMessage
  | [grant] => if grant.toNat ≤ 8 then some (.credit grant.toNat) else none
  | _ => none

/-- The fields of a RESTART: none. -/
def parseRestart : List Byte → Option HostMessage
  | [] => some .restart
  | _ => none

/-- The envelope checks (R171), with the originator they found; none is MALFORMED. -/
def Frame.message (f : Frame) : Option (Fin 8 × HostMessage) :=
  match index? 8 f.originator with
  | none => none
  | some o =>
    (match f.kind.toNat with
      | 1 => parseRead o f.fields
      | 2 => parseWrite o f.fields
      | 3 => parsePost f.fields
      | 4 => parseCancel o f.fields
      | 5 => parseSpan f.fields
      | 6 => parseSet f.fields
      | 7 => parseGet f.fields
      | 8 => parseClear f.fields
      | 9 => parseCredit f.fields
      | 10 => parseRestart f.fields
      | _ => none).map fun m => (o, m)

/-! ## Parameters and read-only items -/

/-- A parameter of Table 9-1 at an index of its range. -/
inductive ParamRef where
  | discardMs | lingerMs
  | quota (span : Fin 4)
  | attempts | postBurst
  | tier (originator : Fin 8)
  | rate (span : Fin 4)
  | responseMs (span : Fin 4)
  | backoffMs (span : Fin 4)
  | settleMs (span : Fin 4)
  | closedAnswer (span : Fin 4)
  | pollMs (span : Fin 4)
  | roster (span : Fin 4)
  | missLimit (span : Fin 4)
  | route (window : Fin 8)
  | defaultSpan | alertReporting
  | alertEnable (condition : Fin 10)
deriving DecidableEq, Repr

/-- A read-only item of Table 9-3 at an index of its range. -/
inductive ItemRef where
  | identity | tableCount | discardCount | reclaimCount
  | postDepth (span : Fin 4)
  | postsDiscarded (span : Fin 4)
  | spanState (span : Fin 4)
  | jobsCompleted (span : Fin 4)
  | attemptsMade (span : Fin 4)
  | attemptsBusy (span : Fin 4)
  | attemptsSilent (span : Fin 4)
  | attemptsGarbled (span : Fin 4)
  | nodeStatus (span : Fin 4)
  | noticeCredit | noticesLost | alertSet | linkErrorCount | intakeOverrunCount
deriving DecidableEq, Repr

inductive Ref where
  | param (p : ParamRef)
  | item (i : ItemRef)
deriving DecidableEq, Repr

/-- An index that is "0 only" (Table 9-1). -/
def zeroOnly (index : Byte) (r : Ref) : Option Ref := if index = 0#8 then some r else none

/-- The code and index checks of R147: what a code and an index name in Tables 9-1 and 9-3; none is BAD_PARAMETER. -/
def ref? (code index : Byte) : Option Ref :=
  let span (f : Fin 4 → ParamRef) : Option Ref := (index? 4 index).map fun i => .param (f i)
  let spanItem (f : Fin 4 → ItemRef) : Option Ref := (index? 4 index).map fun i => .item (f i)
  match code.toNat with
  | 0x01 => zeroOnly index (.param .discardMs)
  | 0x02 => zeroOnly index (.param .lingerMs)
  | 0x03 => span .quota
  | 0x04 => zeroOnly index (.param .attempts)
  | 0x05 => zeroOnly index (.param .postBurst)
  | 0x06 => (index? 8 index).map fun i => .param (.tier i)
  | 0x07 => span .rate
  | 0x08 => span .responseMs
  | 0x09 => span .backoffMs
  | 0x0A => span .settleMs
  | 0x0B => span .closedAnswer
  | 0x0C => span .pollMs
  | 0x0D => span .roster
  | 0x0E => span .missLimit
  | 0x0F => (index? 8 index).map fun i => .param (.route i)
  | 0x10 => zeroOnly index (.param .defaultSpan)
  | 0x11 => zeroOnly index (.param .alertReporting)
  | 0x12 => (index? 10 index).map fun i => .param (.alertEnable i)
  | 0x40 => zeroOnly index (.item .identity)
  | 0x41 => zeroOnly index (.item .tableCount)
  | 0x42 => zeroOnly index (.item .discardCount)
  | 0x43 => zeroOnly index (.item .reclaimCount)
  | 0x44 => spanItem .postDepth
  | 0x45 => spanItem .postsDiscarded
  | 0x46 => spanItem .spanState
  | 0x47 => spanItem .jobsCompleted
  | 0x48 => spanItem .attemptsMade
  | 0x49 => spanItem .attemptsBusy
  | 0x4A => spanItem .attemptsSilent
  | 0x4B => spanItem .attemptsGarbled
  | 0x4C => spanItem .nodeStatus
  | 0x4D => zeroOnly index (.item .noticeCredit)
  | 0x4E => zeroOnly index (.item .noticesLost)
  | 0x4F => zeroOnly index (.item .alertSet)
  | 0x50 => zeroOnly index (.item .linkErrorCount)
  | 0x51 => zeroOnly index (.item .intakeOverrunCount)
  | _ => none

/-- A number carried in one byte, within a range (Table 10-12). -/
def number1? (low high : Nat) : List Byte → Option Nat
  | [b] => if low ≤ b.toNat ∧ b.toNat ≤ high then some b.toNat else none
  | _ => none

/-- A number carried in two bytes, within a range (Table 10-12). -/
def number2? (low high : Nat) : List Byte → Option Nat
  | [b1, b0] => if low ≤ number16 b1 b0 ∧ number16 b1 b0 ≤ high then some (number16 b1 b0) else none
  | _ => none

/-- A two-valued code: 0 or 1 (Table 9-2). -/
def code01? : List Byte → Option Bool
  | [b] => if b = 0#8 then some false else if b = 1#8 then some true else none
  | _ => none

/-- RATE is carried as the rate itself (Table 9-2, R180). -/
def rate? : List Byte → Option Rate
  | [b1, b0] =>
    match number16 b1 b0 with
    | 100 => some .r100
    | 250 => some .r250
    | 500 => some .r500
    | 1000 => some .r1000
    | _ => none
  | _ => none

/-- A ROSTER value: a member count 0..15, then so many addresses, each 1..15 (R113, R180). -/
def members? : List Byte → Option (List Nat)
  | [] => none
  | n :: addresses =>
    if n.toNat ≤ 15 ∧ addresses.length = n.toNat ∧ addresses.all (fun a => decide (1 ≤ a.toNat) && decide (a.toNat ≤ 15))
    then some (addresses.map fun a => a.toNat) else none

/-- A ROUTE value: the mark EMPTY alone, or the mark WINDOW with first unit, last unit, span and node base (R180). The span is
checked here; the other checks of Table 6-3 are `Window.inRange` and `Router.clearOf`. -/
def window? : List Byte → Option (Option Window)
  | [mark] => if mark = 0#8 then some none else none
  | [mark, f1, f0, l1, l0, span, base] =>
    if mark = 1#8 then
      (index? 4 span).map fun sp => some { first := number16 f1 f0, last := number16 l1 l0, span := sp, base := base.toNat }
    else none
  | _ => none

/-- A DEFAULT_SPAN value: a span, or FFh for NONE (Table 9-2). -/
def defaultSpan? : List Byte → Option (Option (Fin 4))
  | [b] => if b = 0xFF#8 then some none else (index? 4 b).map some
  | _ => none

end Sys2Proof.Machine
end

