-- ==== Sys2Proof/Machine/Parameters.lean ====
section
/-! DEFINITION. SET and GET (chapter 9): judging, effects and reported values. -/

namespace Sys2Proof.Machine

/-- A change that a SET makes once its value has passed (R147). -/
inductive Change where
  | discardMs (n : Nat)
  | lingerMs (n : Nat)
  | quota (span : Fin 4) (n : Nat)
  | attempts (n : Nat)
  | postBurst (n : Nat)
  | tier (originator : Fin 8) (t : Tier)
  | rate (span : Fin 4) (r : Rate)
  | responseMs (span : Fin 4) (n : Nat)
  | backoffMs (span : Fin 4) (n : Nat)
  | settleMs (span : Fin 4) (n : Nat)
  | closedAnswer (span : Fin 4) (a : ClosedAnswer)
  | pollMs (span : Fin 4) (n : Nat)
  | roster (span : Fin 4) (members : List Nat)
  | missLimit (span : Fin 4) (n : Nat)
  | route (index : Fin 8) (window : Option Window)
  | defaultSpan (span : Option (Fin 4))
  | alertReporting (on : Bool)
  | alertEnable (condition : Fin 10) (on : Bool)
deriving DecidableEq, Repr

/-- The value check of R147 (ranges of Table 9-1, forms of Table 10-12); none is BAD_VALUE. -/
def requestedChange? (r : Router) (p : ParamRef) (value : List Byte) : Option Change :=
  match p with
  | .discardMs => (number2? 10 5000 value).map .discardMs
  | .lingerMs => (number2? 0 5000 value).map .lingerMs
  | .quota sp => (number1? 1 8 value).map (.quota sp)
  | .attempts => (number1? 1 15 value).map .attempts
  | .postBurst => (number1? 1 16 value).map .postBurst
  | .tier o => (code01? value).map fun b => .tier o (if b then .high else .low)
  | .rate sp => (rate? value).map (.rate sp)
  | .responseMs sp => (number1? 1 50 value).map (.responseMs sp)
  | .backoffMs sp => (number1? 1 100 value).map (.backoffMs sp)
  | .settleMs sp => (number2? 0 1000 value).map (.settleMs sp)
  | .closedAnswer sp => (code01? value).map fun b => .closedAnswer sp (if b then .fail else .refuse)
  | .pollMs sp => (number2? 0 1000 value).map (.pollMs sp)
  | .roster sp => (members? value).map (.roster sp)
  | .missLimit sp => (number1? 1 15 value).map (.missLimit sp)
  | .route i =>
    match window? value with
    | none => none
    | some none => some (.route i none)
    | some (some w) => if w.inRange && r.clearOf i w then some (.route i (some w)) else none
  | .defaultSpan => (defaultSpan? value).map .defaultSpan
  | .alertReporting => (code01? value).map .alertReporting
  | .alertEnable n => (code01? value).map (.alertEnable n)

/-- A SET of RATE is refused in STARTING, ACTIVE and QUIESCING (R62, R147). -/
def SpanState.rateFixed : SpanState → Bool
  | .off => false
  | .starting => true
  | .active => true
  | .quiescing => true
  | .quiesced => false
  | .faulted => false

/-- The state check of R147: only a SET of RATE can fail it. -/
def State.stateAllows (s : State) : Change → Bool
  | .rate sp _ => !(s.span sp).state.rateFixed
  | _ => true

/-- The poll timer after a SET of POLL_MS (R55). -/
def SpanUnit.setPollMs (u : SpanUnit) (n : Nat) : SpanUnit :=
  let timer : PollTimer :=
    if n = 0 then .stopped
    else if u.params.pollMs = 0 ∧ u.state.isOpen then .running n
    else u.scheduler.pollTimer
  { u with params := { u.params with pollMs := n }, scheduler := { u.scheduler with pollTimer := timer } }

/-- A SET of ROSTER (R113): it brings a decision when it leaves the roster non-empty with the poll timer expired (R49, R55). -/
def State.setRoster (s : State) (sp : Fin 4) (members : List Nat) : State :=
  let s := s.updateSpan sp fun u => { u with roster := newRoster u.roster members }
  if (s.span sp).scheduler.pollTimer = .expired ∧ (s.span sp).roster ≠ [] then s.schedule sp else s

/-- A SET of MISS_LIMIT (R117): nodes at or above the new limit are clamped, and NODE_LOST is offered for those made LOST. -/
def State.setMissLimit (s : State) (sp : Fin 4) (limit : Nat) : State :=
  let u := s.span sp
  let s := s.setSpan sp
    { u with params := { u.params with missLimit := limit }, roster := u.roster.map fun r => r.clamped limit }
  (newlyLost u.roster limit).foldl (fun s a => s.offer sp a nodeLost 0) s

/-- Change one span's parameters. -/
def State.updateParams (s : State) (sp : Fin 4) (f : SpanParams → SpanParams) : State :=
  s.updateSpan sp fun u => { u with params := f u.params }

/-- An accepted SET, in one event with the effects its owner gives (R147, R148). -/
def State.apply (s : State) : Change → State
  | .discardMs n => s.setParams { s.params with discardMs := n }
  | .lingerMs n => s.setParams { s.params with lingerMs := n }
  | .quota sp n => s.updateParams sp fun p => { p with quota := n }
  | .attempts n => s.setParams { s.params with attempts := n }
  | .postBurst n => s.setParams { s.params with postBurst := n }
  | .tier o t => s.setParams { s.params with tier := s.params.tier.set o t }
  | .rate sp r => s.updateParams sp fun p => { p with rate := r }
  | .responseMs sp n => s.updateParams sp fun p => { p with responseMs := n }
  | .backoffMs sp n => s.updateParams sp fun p => { p with backoffMs := n }
  | .settleMs sp n => s.updateParams sp fun p => { p with settleMs := n }
  | .closedAnswer sp a => s.updateParams sp fun p => { p with closedAnswer := a }
  | .pollMs sp n => s.updateSpan sp fun u => u.setPollMs n
  | .roster sp members => s.setRoster sp members
  | .missLimit sp n => s.setMissLimit sp n
  | .route i w => s.setRouter (s.router.setWindow i w)
  | .defaultSpan d => s.setRouter { s.router with defaultSpan := d }
  | .alertReporting on => s.setAlerts (s.alerts.setReporting on)
  | .alertEnable n on => s.setAlerts (s.alerts.setEnable n on)

/-- A SET, judged by code, index, writability, value and state in this order (R147). -/
def State.setParameter (s : State) (code index : Byte) (value : List Byte) : State × Reply :=
  match ref? code index with
  | none => (s, .refused .badParameter)
  | some (.item _) => (s, .refused .badParameter)
  | some (.param p) =>
    match requestedChange? s.router p value with
    | none => (s, .refused .badValue)
    | some c => if s.stateAllows c then (s.apply c, .done 0) else (s, .refused .wrongState)

/-! ## GET -/

def codeBit (b : Bool) : Byte := if b then 1#8 else 0#8

def Rate.number : Rate → Nat
  | .r100 => 100
  | .r250 => 250
  | .r500 => 500
  | .r1000 => 1000

/-- A ROUTE record, in the form SET carries it (R110, R180). -/
def windowBytes : Option Window → List Byte
  | none => [0#8]
  | some w => [1#8] ++ bytesOf16 w.first ++ bytesOf16 w.last ++ [byteOf w.span, byteOf w.base]

/-- The value of a parameter (R149, Table 10-12). -/
def State.paramValue (s : State) : ParamRef → List Byte
  | .discardMs => bytesOf16 s.params.discardMs
  | .lingerMs => bytesOf16 s.params.lingerMs
  | .quota sp => [byteOf (s.span sp).params.quota]
  | .attempts => [byteOf s.params.attempts]
  | .postBurst => [byteOf s.params.postBurst]
  | .tier o => [codeBit (s.params.tier[o] == .high)]
  | .rate sp => bytesOf16 (Rate.number (s.span sp).params.rate)
  | .responseMs sp => [byteOf (s.span sp).params.responseMs]
  | .backoffMs sp => [byteOf (s.span sp).params.backoffMs]
  | .settleMs sp => bytesOf16 (s.span sp).params.settleMs
  | .closedAnswer sp => [codeBit ((s.span sp).params.closedAnswer == .fail)]
  | .pollMs sp => bytesOf16 (s.span sp).params.pollMs
  | .roster sp => byteOf (s.span sp).roster.length :: (s.span sp).roster.map fun r => byteOf r.address
  | .missLimit sp => [byteOf (s.span sp).params.missLimit]
  | .route i => windowBytes (s.router.window i)
  | .defaultSpan =>
    match s.router.defaultSpan with
    | none => [0xFF#8]
    | some sp => [byteOf sp]
  | .alertReporting => [codeBit s.alerts.reporting]
  | .alertEnable n => [codeBit (s.alerts.condition n).enable]

/-- The identity record (R153, Table 9-5). -/
def identityBytes : List Byte :=
  bytesOf16 Config.vendorCode ++ bytesOf16 Config.partCode ++
    [byteOf Config.siliconRevision, byteOf Config.spanCount, byteOf Config.tableCapacity]

/-- The value of a read-only item (R149, Table 10-12). -/
def State.itemValue (s : State) : ItemRef → List Byte
  | .identity => identityBytes
  | .tableCount => s.table.counts.map byteOf
  | .discardCount => bytesOf16 s.table.discardCount
  | .reclaimCount => bytesOf16 s.table.reclaimCount
  | .postDepth sp => [byteOf (s.span sp).posts.length]
  | .postsDiscarded sp => bytesOf16 (s.span sp).postsDiscarded
  | .spanState sp => [(s.span sp).state.code]
  | .jobsCompleted sp => bytes32 (s.span sp).counters.jobsCompleted
  | .attemptsMade sp => bytes32 (s.span sp).counters.attemptsMade
  | .attemptsBusy sp => bytes32 (s.span sp).counters.attemptsBusy
  | .attemptsSilent sp => bytes32 (s.span sp).counters.attemptsSilent
  | .attemptsGarbled sp => bytes32 (s.span sp).counters.attemptsGarbled
  | .nodeStatus sp =>
    byteOf (s.span sp).roster.length ::
      (s.span sp).roster.flatMap fun r => [byteOf r.address, r.status.code, byteOf r.misses]
  | .noticeCredit => [byteOf s.notices.credit]
  | .noticesLost => bytesOf16 s.notices.lost
  | .alertSet => s.alerts.records
  | .linkErrorCount => bytesOf16 s.link.linkErrors
  | .intakeOverrunCount => bytesOf16 s.link.intakeOverruns

/-- A GET (R149). -/
def State.getValue (s : State) (code index : Byte) : Reply :=
  match ref? code index with
  | none => .refused .badParameter
  | some (.param p) => .value code index (s.paramValue p)
  | some (.item i) => .value code index (s.itemValue i)

end Sys2Proof.Machine
end

