-- ==== Sys2Proof/Machine/HostLink.lean ====
section
/-! DEFINITION. The Host Link (chapter 10): frames, receiver, Intake Queue, Message Controller, Reply Queue and transmitter. -/

namespace Sys2Proof.Machine

/-! ## Frames out (R163, R164, R179) -/

/-- A host frame as its bytes: sync, L, body, CRC (R163, Table 10-8). -/
def frameBytes (body : List Byte) : List Byte :=
  let counted := byteOf body.length :: body
  Config.syncByte :: counted ++ bytes16 (crc16 counted)

/-- The bytes of a frame from the host. -/
def Frame.body (f : Frame) : List Byte := f.kind :: f.sequence :: f.originator :: f.fields

/-- Outcome codes (Table 10-11). -/
def CompletionOutcome.code : CompletionOutcome → Byte
  | .ok => 0#8
  | .dataSuspect => 1#8
  | .nodeRefused => 2#8
  | .noResponse => 3#8
  | .busyExhausted => 4#8
  | .checkFailed => 5#8
  | .spanReset => 6#8
  | .lineFault => 7#8
  | .spanClosed => 8#8

/-- RETRY_LATER reason codes (Table 10-11). -/
def RetryReason.code : RetryReason → Byte
  | .tableFull => 1#8
  | .spanQuota => 2#8
  | .postQueueFull => 3#8

/-- REFUSED reason codes (Table 10-11). -/
def RefusedReason.code : RefusedReason → Byte
  | .malformed => 1#8
  | .noRoute => 2#8
  | .spanClosed => 3#8
  | .badParameter => 4#8
  | .badValue => 5#8
  | .wrongState => 6#8

/-- READY cause codes (Table 9-2). -/
def ReadyCause.code : ReadyCause → Byte
  | .powerOn => 0#8
  | .resetLine => 1#8
  | .restart => 2#8

/-- Reply kinds (Table 10-10). -/
def Reply.kind : Reply → Byte
  | .deferred _ => 0x81#8
  | .completion _ _ _ _ _ => 0x82#8
  | .posted _ => 0x83#8
  | .retryLater _ => 0x84#8
  | .refused _ => 0x85#8
  | .cancelled _ => 0x86#8
  | .done _ => 0x87#8
  | .value _ _ _ => 0x88#8

/-- The fields of a reply, from offset 3 of its body (Table 10-10). -/
def Reply.fields : Reply → List Byte
  | .deferred running => [codeBit running]
  | .completion outcome code attempts replay data =>
    [outcome.code, code, byteOf attempts, codeBit replay, byteOf data.length] ++ data
  | .posted depth => [byteOf depth]
  | .retryLater reason => [reason.code]
  | .refused reason => [reason.code]
  | .cancelled n => [byteOf n]
  | .done result => [byteOf result]
  | .value code index bytes => code :: index :: bytes

/-- A reply's frame: it carries the sequence and originator of its message (R172). -/
def Slot.bytes (sl : Slot) : List Byte :=
  frameBytes (sl.reply.kind :: sl.sequence :: sl.originator :: sl.reply.fields)

/-- An unsolicited message's frame: the unsolicited counter and originator 0 (R176). -/
def unsolicitedBytes (kind counter : Byte) (fields : List Byte) : List Byte := frameBytes (kind :: counter :: 0#8 :: fields)

/-- The fields of a NOTICE (Table 10-10). -/
def noticeFields (n : Notice) (lost : Nat) : List Byte :=
  [byteOf n.span, byteOf n.node, byteOf n.kind] ++ bytesOf16 n.value ++ [byteOf n.count] ++ bytesOf16 lost

/-! ## Intake Queue (R169) -/

/-- The first cause of INTAKE_OVERRUN (R133): the originator byte when it is 0..7. -/
def overrunCause (originator : Byte) : FirstCause :=
  match index? 8 originator with
  | some o => .originator o
  | none => .none

/-- A good frame is offered to the Intake Queue (R169): it joins, or is dropped, counted and raised. -/
def State.offerFrame (s : State) (f : Frame) : State :=
  if s.link.intake.length < Config.intakeCapacity then s.setLink { s.link with intake := s.link.intake ++ [f] }
  else
    (s.setLink { s.link with intakeOverruns := saturate Config.counterTop s.link.intakeOverruns }).raise .intakeOverrun
      (overrunCause f.originator)

/-! ## Message Controller (R170, R171, R172) -/

/-- A CREDIT (R126): its result is the credit as it then stands. -/
def State.grantCredit (s : State) (grant : Nat) : State × Reply :=
  let credit := if grant = 0 then 0 else min Config.creditLimit (s.notices.credit + grant)
  (s.setNotices { s.notices with credit := credit }, .done credit)

/-- A RESTART (R155): DRAINING, the Intake Queue emptied, a frame in reception abandoned. -/
def State.startDraining (s : State) : State :=
  (s.setControl { s.control with state := .draining }).setLink { s.link with intake := [], receiver := .hunting }

/-- A SPAN message, by its action (R86). -/
def State.spanAction (s : State) (sp : Fin 4) : SpanAction → State × Reply
  | .enable => s.spanEnable sp
  | .quiesce => s.spanQuiesce sp
  | .off => s.spanOff sp

/-- A message that passed the envelope checks is handed to its owner (Table 0-4), which acts and answers. -/
def State.act (s : State) (o : Fin 8) : HostMessage → State × Reply
  | .request key replaceable => s.request key replaceable
  | .post unit item length data => s.acceptPost o unit item length data
  | .cancelKey key => s.cancel fun e => e.key == key
  | .cancelAll => s.cancel fun e => e.key.originator == o
  | .span sp action => s.spanAction sp action
  | .set code index value => s.setParameter code index value
  | .get code index => (s, s.getValue code index)
  | .clear conditions => (s.setAlerts (s.alerts.clear conditions), .done 0)
  | .credit grant => s.grantCredit grant
  | .restart => (s.startDraining, .done 0)

/-- A reply fills the slot reserved at the tail of the Reply Queue (R170, R173). -/
def State.fill (s : State) (f : Frame) (r : Reply) (ofRestart : Bool) : State :=
  s.setLink { s.link with
    replies := s.link.replies ++
      [{ sequence := f.sequence, originator := f.originator, reply := r, ofRestart, sending := false }] }

/-- What a taken frame does: the envelope checks (R171), the owner's act, and the reply (R172). -/
def State.answer (s : State) (f : Frame) : State :=
  match f.message with
  | none => s.fill f (.refused .malformed) false
  | some (o, m) => (s.act o m).1.fill f (s.act o m).2 (m == .restart)

/-- The Message Controller may take the head of the Intake Queue (R170). -/
def State.canTake (s : State) : Bool :=
  s.control.state == .serving && !s.link.intake.isEmpty && decide (s.link.replies.length < Config.replyCapacity)

/-- A take (R170): the head leaves the Intake Queue and is answered. -/
def State.take (s : State) : State :=
  match s.link.intake with
  | [] => s
  | f :: rest => (s.setLink { s.link with intake := rest }).answer f

/-- Takes are made one after another while the conditions of R170 hold, at most n of them. -/
def State.takes : Nat → State → State
  | 0, s => s
  | n + 1, s => if s.canTake then State.takes n s.take else s

/-! ## Transmitter (R173, R174, R176) -/

/-- The oldest FILLED slot, and the Reply Queue with that slot SENDING (R173). -/
def oldestFilled : List Slot → Option (Slot × List Slot)
  | [] => none
  | sl :: rest =>
    if sl.sending then (oldestFilled rest).map fun (x, rest') => (x, sl :: rest')
    else some (sl, { sl with sending := true } :: rest)

/-- The transmitter takes an unsolicited message (R176): it carries the counter, which then rises by one. -/
def State.sendUnsolicited (s : State) (source : Source) (kind : Byte) (fields : List Byte) : State :=
  s.setLink { s.link with
    transmitter := .sending source (unsolicitedBytes kind s.link.unsolicited fields)
    unsolicited := s.link.unsolicited + 1 }

/-- The transmitter takes alert-due (R139): the ALERT is built from the set as it stands. -/
def State.takeAlert (s : State) : State :=
  (s.sendUnsolicited .alert 0xC2#8 s.alerts.records).setAlerts s.alerts.take

/-- The transmitter takes the head notice (R127): the credit falls, the NOTICE carries the lost count, which becomes 0. -/
def State.takeNotice (s : State) (n : Notice) (rest : List Notice) : State :=
  (s.sendUnsolicited .notice 0xC1#8 (noticeFields n s.notices.lost)).setNotices
    { entries := rest, credit := s.notices.credit - 1, lost := 0 }

/-- The transmitter takes the oldest FILLED reply, if there is one (R173). -/
def State.takeReply (s : State) : Option State :=
  (oldestFilled s.link.replies).map fun (sl, replies) =>
    s.setLink { s.link with replies := replies, transmitter := .sending .reply sl.bytes }

/-- An ALERT, else a NOTICE, else nothing: what SERVING may send when no reply is FILLED (R174). -/
def State.takeUnsolicited (s : State) : State :=
  if s.alerts.due then s.takeAlert
  else
    match s.notices.entries with
    | [] => s
    | n :: rest => if 1 ≤ s.notices.credit then s.takeNotice n rest else s

/-- The transmitter's choice (R174): made only while it is IDLE, by the control state. -/
def State.choose (s : State) : State :=
  match s.link.transmitter with
  | .sending _ _ => s
  | .idle =>
    match s.control.state with
    | .serving => s.takeReply.getD s.takeUnsolicited
    | .draining => s.takeReply.getD s
    | .announcing => s
    | .held => s

/-- What follows an event by itself: the takes it allows, then the transmitter's choice (R170, R174). DESIGN CHOICE, log 3. -/
def State.serve (s : State) : State := (State.takes s.link.intake.length s).choose

/-! ## Receiver (R165 to R168) -/

/-- What the receiver judges: a frame failed, or a good frame (R166, R167). -/
inductive Judged where
  | failed
  | good (f : Frame)
deriving DecidableEq, Repr

/-- A frame complete with L: the L bytes of body and the two CRC bytes that follow (R163, R166). -/
def judgeComplete (l : Byte) (bytes : List Byte) : Judged :=
  let body := bytes.take l.toNat
  match bytes.drop l.toNat, body with
  | c1 :: c0 :: _, kind :: sequence :: originator :: fields =>
    if crc16 (l :: body) = c1 ++ c0 then .good { kind, sequence, originator, fields } else .failed
  | _, _ => .failed

/-- L is in range (R166). -/
def lengthByteOk (l : Byte) : Bool := decide (3 ≤ l.toNat) && decide (l.toNat ≤ 96)

/-- The receiver examines bytes from HUNTING (R165 to R168): what it judges, in order, and where it is left. `skip` counts bytes
of a good frame still to pass over. A failed frame's bytes after its sync byte are examined again, with the bytes behind them.
`gap` says that the gap measure has exceeded 5 ms, so that a frame that needs more bytes fails by gap at once (R168). -/
def examine (gap : Bool) : Nat → List Byte → List Judged × Receiver
  | _, [] => ([], .hunting)
  | skip + 1, _ :: rest => examine gap skip rest
  | 0, b :: rest =>
    if b = Config.syncByte then
      let again := examine gap 0 rest
      match rest with
      | [] => if gap then (.failed :: again.1, again.2) else ([], .collecting [])
      | l :: more =>
        if lengthByteOk l then
          if l.toNat + 2 ≤ more.length then
            match judgeComplete l more with
            | .failed => (.failed :: again.1, again.2)
            | .good f =>
              let onward := examine gap (l.toNat + 3) rest
              (.good f :: onward.1, onward.2)
          else if gap then (.failed :: again.1, again.2)
          else ([], .collecting rest)
        else (.failed :: again.1, again.2)
    else examine gap 0 rest

/-- The bytes of the frame in reception, its sync byte first. -/
def Receiver.unresolved : Receiver → List Byte
  | .hunting => []
  | .collecting held => Config.syncByte :: held

/-- A frame fails (R167): dropped, counted and raised. -/
def State.frameFailed (s : State) : State :=
  (s.setLink { s.link with linkErrors := saturate Config.counterTop s.link.linkErrors }).raise .linkError .none

/-- One judgement of the receiver, and what follows it by itself. Outside SERVING the receiver judges nothing (R154): bytes behind
a RESTART that was taken are ignored. -/
def State.judged (s : State) (j : Judged) : State :=
  if s.control.state = .serving then
    match j with
    | .failed => s.frameFailed.serve
    | .good f => (s.offerFrame f).serve
  else s

/-- The receiver examines bytes, is left as they leave it, and its judgements are taken in order. -/
def State.receiverEvent (s : State) (gap : Bool) (bytes : List Byte) : State :=
  let e := examine gap 0 bytes
  e.1.foldl State.judged (s.setLink { s.link with receiver := e.2 })

/-- Bytes arrive on HRX (R165): ignored outside SERVING (R154). Bytes given in SERVING are bytes whose start bits followed the end of
READY, and every one is examined: DESIGN CHOICE, log 12. -/
def State.receive (s : State) (bytes : List Byte) : State :=
  if s.control.state = .serving then s.receiverEvent false (s.link.receiver.unresolved ++ bytes) else s

/-- The gap measure exceeds 5 ms (R167): it runs in COLLECTING alone. -/
def State.gapExceeded (s : State) : State :=
  match s.link.receiver with
  | .hunting => s
  | .collecting held =>
    if s.control.state = .serving then s.receiverEvent true (Config.syncByte :: held) else s

/-- A good frame with this body has just been completed: it is offered to the Intake Queue, and taken as soon as the Message
Controller can (R169, R170). Outside SERVING it is ignored (R154). Given in SERVING, its bytes began after the end of READY (log 12). -/
def State.message (s : State) (f : Frame) : State := s.judged (.good f)

end Sys2Proof.Machine
end

