-- ==== Sys2Proof/Machine/Power.lean ====
section
/-! DEFINITION. Relay control (9.5 to 9.7): READY, the restart event, RSTn and power-on. -/

namespace Sys2Proof.Machine

/-- READY is taken (R158): cause and identity, the unsolicited counter and originator 0. -/
def State.takeReady (s : State) (cause : ReadyCause) (begun : Bool) : State :=
  s.sendUnsolicited (.ready begun) 0xC3#8 (cause.code :: identityBytes)

/-- The restart event (R157): every block at its reset state for RESTART, every parameter and the bit rate kept, and READY taken
with cause RESTART. Its first byte begins in the event (R174). -/
def State.restartEvent (s : State) : State :=
  State.takeReady
    { control := { s.control with state := .announcing }
      link := { resetLink with bitRate := s.link.bitRate }
      table := resetTable
      router := s.router
      spans := Vector.ofFn fun sp : Fin 4 => (s.span sp).restarted
      notices := resetNotices
      alerts := s.alerts.restarted
      params := s.params
      pending := s.pending }
    .restart true

/-- Every block at its reset values for power-on and RSTn (R159), under a given relay control and bit rate. -/
def State.hardReset (s : State) (control : RelayControl) (bitRate : BitRate) : State :=
  { State.reset with control := control, link := { resetLink with bitRate := bitRate }, pending := s.pending }

/-- Power-on (R160): HELD with the start-up in progress. The pin RSTn keeps its level. -/
def State.powerOn (s : State) : State :=
  s.hardReset { resetControl with rstnHigh := s.control.rstnHigh } resetLink.bitRate

/-- RSTn goes low (R159): HELD. The bit rate holds until the relay next leaves HELD (R162). -/
def State.rstnLow (s : State) : State :=
  s.hardReset { s.control with state := .held, rstnHigh := false } s.link.bitRate

/-- The bit rate the straps give (Table 10-2). -/
def strapRate (p : Straps) : BitRate :=
  match p.baud1, p.baud0 with
  | false, false => .b115200
  | false, true => .b460800
  | true, false => .b921600
  | true, true => .b3000000

/-- The relay leaves HELD, once RSTn is high and the start-up has ended (R160): straps sampled, ANNOUNCING, READY taken. The cause
is POWER_ON when no READY has begun since power was applied. -/
def State.leaveHeld (s : State) (p : Straps) : State :=
  if s.control.state = .held ∧ s.control.rstnHigh ∧ ¬ s.control.startUp then
    ((s.setControl { s.control with state := .announcing }).setLink { s.link with bitRate := strapRate p }).takeReady
      (if s.control.readyBegun then .resetLine else .powerOn) false
  else s

/-- The internal start-up ends (R160). -/
def State.startUpEnded (s : State) (p : Straps) : State :=
  if s.control.startUp then (s.setControl { s.control with startUp := false }).leaveHeld p else s

/-- RSTn goes high (R160). -/
def State.rstnHigh (s : State) (p : Straps) : State :=
  if s.control.rstnHigh then s else (s.setControl { s.control with rstnHigh := true }).leaveHeld p

/-- The first byte of a READY begins on HTX (R160). -/
def State.readyBegins (s : State) : State :=
  match s.link.transmitter with
  | .sending (.ready _) bytes =>
    (s.setLink { s.link with transmitter := .sending (.ready true) bytes }).setControl { s.control with readyBegun := true }
  | _ => s

/-- The slot of the reply in transmission is freed (R173). -/
def State.freeSlot (s : State) : State :=
  s.setLink { s.link with replies := removeFirst (fun sl => sl.sending) s.link.replies, transmitter := .idle }

/-- The reply in transmission is the DONE to a RESTART. -/
def State.endsRestart (s : State) : Bool := s.link.replies.any fun sl => sl.sending && sl.ofRestart

/-- The last byte of a frame leaves HTX (R177). A READY whose last byte has left has begun (R160): DEDUCED, log 10. -/
def State.txFrameEnded (s : State) : State :=
  match s.link.transmitter with
  | .idle => s
  | .sending .reply _ => if s.endsRestart then s.restartEvent else s.freeSlot.serve
  | .sending .alert _ => (s.setLink { s.link with transmitter := .idle }).serve
  | .sending .notice _ => (s.setLink { s.link with transmitter := .idle }).serve
  | .sending (.ready _) _ =>
    ((s.setControl { s.control with state := .serving, readyBegun := true }).setLink
      { s.link with transmitter := .idle, receiver := .hunting }).serve

end Sys2Proof.Machine
end

