-- ==== Sys2Proof/Machine/HostMessages.lean ====
section
/-! DEFINITION. The meanings of the 21 message rows. A good frame with the message's body is offered to the Intake Queue and taken
by the Message Controller as soon as it can (R169, R170): log 2. The owner's act is `State.act`. -/

namespace Sys2Proof.Machine

/-- What a command answers: the next state, always. -/
abbrev Result := Host.Outcome State Fault Refusal

/-- The fields of a SET (Table 10-9). -/
def setFields (code index : Byte) (value : List Byte) : List Byte := code :: index :: value

/-- The body of a message. -/
def frame (kind seq orig : Byte) (fields : List Byte) : Frame := { kind := kind, sequence := seq, originator := orig, fields }

/-- READ (R6 to R16, R178). -/
def execRead (seq orig : Byte) (unit : Word16) (item length replaceable : Byte) (s : State) : Result :=
  .next (s.message (frame 0x01#8 seq orig (bytes16 unit ++ [item, length, replaceable])))

/-- WRITE (R6 to R16, R178). -/
def execWrite (seq orig : Byte) (unit : Word16) (item length : Byte) (data : List Byte) (s : State) : Result :=
  .next (s.message (frame 0x02#8 seq orig (bytes16 unit ++ [item, length] ++ data)))

/-- POST (R34 to R37). -/
def execPost (seq orig : Byte) (unit : Word16) (item length : Byte) (data : List Byte) (s : State) : Result :=
  .next (s.message (frame 0x03#8 seq orig (bytes16 unit ++ [item, length] ++ data)))

/-- CANCEL of form KEY (R22). -/
def execCancelKey (seq orig operation : Byte) (unit : Word16) (item length : Byte) (data : List Byte) (s : State) : Result :=
  .next (s.message (frame 0x04#8 seq orig ([0#8, operation] ++ bytes16 unit ++ [item, length] ++ data)))

/-- CANCEL of form ALL (R23). -/
def execCancelAll (seq orig : Byte) (s : State) : Result := .next (s.message (frame 0x04#8 seq orig [1#8]))

/-- SPAN ENABLE (R87). -/
def execSpanEnable (seq orig span : Byte) (s : State) : Result := .next (s.message (frame 0x05#8 seq orig [span, 0#8]))

/-- SPAN QUIESCE (R90). -/
def execSpanQuiesce (seq orig span : Byte) (s : State) : Result := .next (s.message (frame 0x05#8 seq orig [span, 1#8]))

/-- SPAN OFF (R92, R93). -/
def execSpanOff (seq orig span : Byte) (s : State) : Result := .next (s.message (frame 0x05#8 seq orig [span, 2#8]))

/-- SET of ROUTE (R105, R106). -/
def execSetRoute (seq orig index : Byte) (value : List Byte) (s : State) : Result :=
  .next (s.message (frame 0x06#8 seq orig (setFields 0x0F#8 index value)))

/-- SET of DEFAULT_SPAN (R107). -/
def execSetDefaultSpan (seq orig index : Byte) (value : List Byte) (s : State) : Result :=
  .next (s.message (frame 0x06#8 seq orig (setFields 0x10#8 index value)))

/-- SET of ROSTER (R113). -/
def execSetRoster (seq orig index : Byte) (value : List Byte) (s : State) : Result :=
  .next (s.message (frame 0x06#8 seq orig (setFields 0x0D#8 index value)))

/-- SET of MISS_LIMIT (R117). -/
def execSetMissLimit (seq orig index : Byte) (value : List Byte) (s : State) : Result :=
  .next (s.message (frame 0x06#8 seq orig (setFields 0x0E#8 index value)))

/-- SET of POLL_MS (R55). -/
def execSetPollMs (seq orig index : Byte) (value : List Byte) (s : State) : Result :=
  .next (s.message (frame 0x06#8 seq orig (setFields 0x0C#8 index value)))

/-- SET of RATE (R62). -/
def execSetRate (seq orig index : Byte) (value : List Byte) (s : State) : Result :=
  .next (s.message (frame 0x06#8 seq orig (setFields 0x07#8 index value)))

/-- SET of ALERT_ENABLE (R135). -/
def execSetAlertEnable (seq orig index : Byte) (value : List Byte) (s : State) : Result :=
  .next (s.message (frame 0x06#8 seq orig (setFields 0x12#8 index value)))

/-- SET of ALERT_REPORTING (R135). -/
def execSetAlertReporting (seq orig index : Byte) (value : List Byte) (s : State) : Result :=
  .next (s.message (frame 0x06#8 seq orig (setFields 0x11#8 index value)))

/-- SET of any other parameter or of a read-only item (R147). -/
def execSet (seq orig code index : Byte) (value : List Byte) (s : State) : Result :=
  .next (s.message (frame 0x06#8 seq orig (setFields code index value)))

/-- GET (R149). -/
def execGet (seq orig code index : Byte) (s : State) : Result :=
  .next (s.message (frame 0x07#8 seq orig [code, index]))

/-- CLEAR (R141). -/
def execClear (seq orig : Byte) (conditions : Word16) (s : State) : Result :=
  .next (s.message (frame 0x08#8 seq orig (bytes16 conditions)))

/-- CREDIT (R126). -/
def execCredit (seq orig grant : Byte) (s : State) : Result := .next (s.message (frame 0x09#8 seq orig [grant]))

/-- RESTART (R155). -/
def execRestart (seq orig : Byte) (s : State) : Result := .next (s.message (frame 0x0A#8 seq orig []))

end Sys2Proof.Machine
end

