-- ==== Sys2Proof/Machine/LinkEvents.lean ====
section
/-! DEFINITION. The meanings of the Host Link, power, reset and Transaction Table timer rows. An event that the state rules out (an
expiry of a stopped timer, the end of a frame on an idle line) changes nothing: log 9. -/

namespace Sys2Proof.Machine

/-- HOST_FRAME (R165, R166): the bytes that arrive on HRX, the last of which completes a frame, begun after READY's end when they are given
in SERVING (log 12). -/
def execHostFrame (bytes : List Byte) (s : State) : Result := .next (s.receive bytes)

/-- HRX_BYTE_RECEIVED (R165): one byte arrives on HRX, begun after READY's end when it is given in SERVING (log 12). -/
def execHrxByteReceived (byte : Byte) (s : State) : Result := .next (s.receive [byte])

/-- GAP_FAILURE (R167, R168). -/
def execGapFailure (s : State) : Result := .next s.gapExceeded

/-- TX_FRAME_END (R177). -/
def execTxFrameEnd (s : State) : Result := .next s.txFrameEnded

/-- POWER_ON (R160). -/
def execPowerOn (s : State) : Result := .next s.powerOn

/-- START_UP_END (R160). -/
def execStartUpEnd (straps : Straps) (s : State) : Result := .next (s.startUpEnded straps)

/-- RSTN_LOW (R159). -/
def execRstnLow (s : State) : Result := .next s.rstnLow

/-- RSTN_HIGH (R160). -/
def execRstnHigh (straps : Straps) (s : State) : Result := .next (s.rstnHigh straps)

/-- READY_FIRST_BYTE (R160). -/
def execReadyFirstByte (s : State) : Result := .next s.readyBegins

/-- DISCARD_EXPIRY (R19). -/
def execDiscardExpiry (key : Key) (s : State) : Result := .next (s.discardExpired key).choose

/-- LINGER_EXPIRY (R20). -/
def execLingerExpiry (key : Key) (s : State) : Result := .next (s.lingerExpired key)

end Sys2Proof.Machine
end

