-- ==== Sys2Proof/Machine/SpanEvents.lean ====
section
/-! DEFINITION. The meanings of the span rows: timers, engine phases and line fault. An event that the span's state or the engine's
phase rules out changes nothing: log 9. -/

namespace Sys2Proof.Machine

/-- The phase of the job in progress on a span (Table 4-6). -/
def SpanUnit.phase (u : SpanUnit) : Option Phase := u.job.map fun j => j.phase

/-- The engine of a span enters a phase. -/
def SpanUnit.setPhase (u : SpanUnit) (p : Phase) : SpanUnit := { u with job := u.job.map fun j => { j with phase := p } }

/-- The turnaround is complete (R64, R71): the attempt begins. -/
def SpanUnit.turnaroundCompleted (u : SpanUnit) : SpanUnit :=
  match u.job with
  | none => u
  | some j =>
    match j.phase with
    | .turnaround _ => u.beginAttempt j
    | _ => u

/-- The command frame's last stop bit is sent (R61, R68, R95): SDEn is released, the line measure begins, and the window opens;
with SDn active at that moment a start bit counts as seen. -/
def SpanUnit.commandSent (u : SpanUnit) (lineActive : Bool) : SpanUnit :=
  match u.phase with
  | some (.sending _) =>
    { u with sde := false, measure := .running }.setPhase (if lineActive then .receiving else .window u.params.responseMs)
  | _ => u

/-- A start bit is seen on SDn: in the window it stops the window (R68), and in reception it is a character like any other (R63). While
SDEn is asserted SDn is ignored (R61). Otherwise nothing is collected, and SDn is no longer idle (R63, R64). -/
def SpanUnit.responseStarted (u : SpanUnit) : SpanUnit :=
  match u.phase with
  | some (.window _) => u.setPhase .receiving
  | some .receiving => u
  | some (.sending _) => u
  | some (.turnaround _) => { u with idle3 := false }
  | some (.backoff _) => { u with idle3 := false }
  | none => { u with idle3 := false }

/-- SDn has been idle for three character times after characters that were not collected (R63): a turnaround is complete (R64), and in
BACKOFF or with no job the idle counts toward the turnaround to come. -/
def SpanUnit.lineIdle (u : SpanUnit) : SpanUnit :=
  match u.phase with
  | some (.turnaround _) => u.turnaroundCompleted
  | some (.backoff _) => { u with idle3 := true }
  | none => { u with idle3 := true }
  | some (.sending _) => u
  | some (.window _) => u
  | some .receiving => u

/-- The backoff expires (R73): the engine enters TURNAROUND. -/
def SpanUnit.backoffExpired (u : SpanUnit) : SpanUnit :=
  match u.job with
  | none => u
  | some j =>
    match j.phase with
    | .backoff _ => u.enterTurnaround j
    | _ => u

/-- The window expires with no start bit seen (R68): the attempt ends SILENT. SDn has been idle since the window opened (R64). -/
def State.windowExpired (s : State) (sp : Fin 4) : State :=
  match (s.span sp).phase with
  | some (.window _) => (s.updateSpan sp fun u => { u with idle3 := true }).attemptEnded sp .silent
  | _ => s

/-- A frame on SDn ends by its three-character idle (R63): in RECEIVING it is the response, and is judged (R69); in any other phase its
characters were not collected, and the idle alone counts. -/
def State.responseEnded (s : State) (sp : Fin 4) (chars : List LineChar) : State :=
  match (s.span sp).job with
  | none => s.updateSpan sp SpanUnit.lineIdle
  | some j =>
    match j.phase with
    | .receiving => (s.updateSpan sp fun u => { u with idle3 := true }).attemptEnded sp (j.judge chars)
    | _ => s.updateSpan sp SpanUnit.lineIdle

/-- A 37th character begins (R63): the frame is over-length and GARBLED (R69), and SDn is not idle. -/
def State.responseOverlong (s : State) (sp : Fin 4) : State :=
  match (s.span sp).phase with
  | some .receiving => (s.updateSpan sp fun u => { u with idle3 := false }).attemptEnded sp (.garbled none)
  | _ => s

/-- SETTLE_EXPIRY (R88). -/
def execSettleExpiry (span : Fin 4) (s : State) : Result := .next (s.settleExpired span)

/-- POLL_TIMER_EXPIRY (R54). -/
def execPollTimerExpiry (span : Fin 4) (s : State) : Result := .next (s.pollTimerExpired span)

/-- TURNAROUND_COMPLETE (R64, R71). -/
def execTurnaroundComplete (span : Fin 4) (s : State) : Result := .next (s.updateSpan span SpanUnit.turnaroundCompleted)

/-- COMMAND_FRAME_SENT (R68). -/
def execCommandFrameSent (span : Fin 4) (lineActive : Bool) (s : State) : Result :=
  .next (s.updateSpan span fun u => u.commandSent lineActive)

/-- RESPONSE_START (R63, R64, R68). -/
def execResponseStart (span : Fin 4) (s : State) : Result := .next (s.updateSpan span SpanUnit.responseStarted)

/-- RESPONSE_WINDOW_EXPIRY (R68). -/
def execResponseWindowExpiry (span : Fin 4) (s : State) : Result := .next (s.windowExpired span).choose

/-- RESPONSE_FRAME_END (R63, R64, R69). -/
def execResponseFrameEnd (span : Fin 4) (chars : List LineChar) (s : State) : Result :=
  .next (s.responseEnded span chars).choose

/-- RESPONSE_CHARACTER_37 (R63). -/
def execResponseCharacter37 (span : Fin 4) (s : State) : Result := .next (s.responseOverlong span).choose

/-- BACKOFF_EXPIRY (R73). -/
def execBackoffExpiry (span : Fin 4) (s : State) : Result := .next (s.updateSpan span SpanUnit.backoffExpired)

/-- LINE_FAULT (R95, R96; in SENDING too, log 11). -/
def execLineFault (span : Fin 4) (s : State) : Result := .next (s.lineFault span).choose

end Sys2Proof.Machine
end

