-- ==== Sys2Proof/Machine/Dispatch.lean ====
section
/-! DEFINITION. One arm per command: a direct call of its meaning. -/

namespace Sys2Proof.Machine

def exec (i : Instr) (s : State) : Host.Outcome State Fault Refusal :=
  match i with
  | .read seq orig unit item length replaceable => Sys2Proof.Machine.execRead seq orig unit item length replaceable s
  | .write seq orig unit item length data => Sys2Proof.Machine.execWrite seq orig unit item length data s
  | .post seq orig unit item length data => Sys2Proof.Machine.execPost seq orig unit item length data s
  | .cancelKey seq orig operation unit item length data => Sys2Proof.Machine.execCancelKey seq orig operation unit item length data s
  | .cancelAll seq orig => Sys2Proof.Machine.execCancelAll seq orig s
  | .spanEnable seq orig span => Sys2Proof.Machine.execSpanEnable seq orig span s
  | .spanQuiesce seq orig span => Sys2Proof.Machine.execSpanQuiesce seq orig span s
  | .spanOff seq orig span => Sys2Proof.Machine.execSpanOff seq orig span s
  | .setRoute seq orig index value => Sys2Proof.Machine.execSetRoute seq orig index value s
  | .setDefaultSpan seq orig index value => Sys2Proof.Machine.execSetDefaultSpan seq orig index value s
  | .setRoster seq orig index value => Sys2Proof.Machine.execSetRoster seq orig index value s
  | .setMissLimit seq orig index value => Sys2Proof.Machine.execSetMissLimit seq orig index value s
  | .setPollMs seq orig index value => Sys2Proof.Machine.execSetPollMs seq orig index value s
  | .setRate seq orig index value => Sys2Proof.Machine.execSetRate seq orig index value s
  | .setAlertEnable seq orig index value => Sys2Proof.Machine.execSetAlertEnable seq orig index value s
  | .setAlertReporting seq orig index value => Sys2Proof.Machine.execSetAlertReporting seq orig index value s
  | .set seq orig code index value => Sys2Proof.Machine.execSet seq orig code index value s
  | .get seq orig code index => Sys2Proof.Machine.execGet seq orig code index s
  | .clear seq orig conditions => Sys2Proof.Machine.execClear seq orig conditions s
  | .credit seq orig grant => Sys2Proof.Machine.execCredit seq orig grant s
  | .restart seq orig => Sys2Proof.Machine.execRestart seq orig s
  | .hostFrame bytes => Sys2Proof.Machine.execHostFrame bytes s
  | .gapFailure => Sys2Proof.Machine.execGapFailure s
  | .txFrameEnd => Sys2Proof.Machine.execTxFrameEnd s
  | .powerOn => Sys2Proof.Machine.execPowerOn s
  | .startUpEnd straps => Sys2Proof.Machine.execStartUpEnd straps s
  | .rstnLow => Sys2Proof.Machine.execRstnLow s
  | .rstnHigh straps => Sys2Proof.Machine.execRstnHigh straps s
  | .discardExpiry key => Sys2Proof.Machine.execDiscardExpiry key s
  | .lingerExpiry key => Sys2Proof.Machine.execLingerExpiry key s
  | .settleExpiry span => Sys2Proof.Machine.execSettleExpiry span s
  | .pollTimerExpiry span => Sys2Proof.Machine.execPollTimerExpiry span s
  | .turnaroundComplete span => Sys2Proof.Machine.execTurnaroundComplete span s
  | .commandFrameSent span lineActive => Sys2Proof.Machine.execCommandFrameSent span lineActive s
  | .responseStart span => Sys2Proof.Machine.execResponseStart span s
  | .responseWindowExpiry span => Sys2Proof.Machine.execResponseWindowExpiry span s
  | .responseFrameEnd span chars => Sys2Proof.Machine.execResponseFrameEnd span chars s
  | .backoffExpiry span => Sys2Proof.Machine.execBackoffExpiry span s
  | .lineFault span => Sys2Proof.Machine.execLineFault span s
  | .hrxByteReceived byte => Sys2Proof.Machine.execHrxByteReceived byte s
  | .responseCharacter37 span => Sys2Proof.Machine.execResponseCharacter37 span s
  | .readyFirstByte => Sys2Proof.Machine.execReadyFirstByte s

end Sys2Proof.Machine
end

