-- ==== Sys2Proof/WellFormed.lean ====
section
/-! DEFINITION. Which commands the outside can send: what fits a frame, a key and a response (R163, R4, R63). -/

namespace Sys2Proof

/-- A key the Transaction Table can hold (R4): 1..32 bytes, and data exactly for WRITE. -/
def Key.wellFormed (k : Key) : Bool :=
  1 ≤ k.length && k.length ≤ 32 &&
    match k.operation with
    | .read => k.data.isEmpty
    | .write => k.data.length == k.length

/-- The parameter codes that have a SET row of their own (ROUTE, DEFAULT_SPAN, ROSTER, MISS_LIMIT, POLL_MS, RATE,
ALERT_ENABLE, ALERT_REPORTING; Table 9-1). -/
def ownSetRow : List Byte := [0x0F#8, 0x10#8, 0x0D#8, 0x0E#8, 0x0C#8, 0x07#8, 0x12#8, 0x11#8]

/-- The body of a message is at most 96 bytes (R163); a SET body has 5 bytes before its value (Table 10-9). -/
def valueFits (value : List Byte) : Bool := value.length ≤ 91

/-- Well-formed commands. A message row is well-formed when its body fits a frame; a row SET when its code has no row of its
own; HOST_FRAME when it brings 1..100 bytes; RESPONSE_FRAME_END when it brings 1..36 characters. -/
def Instr.wellFormed : Instr → Bool
  | .read _ _ _ _ _ _ => true
  | .write _ _ _ _ _ data => data.length ≤ 89
  | .post _ _ _ _ _ data => data.length ≤ 89
  | .cancelKey _ _ _ _ _ _ data => data.length ≤ 87
  | .cancelAll _ _ => true
  | .spanEnable _ _ _ => true
  | .spanQuiesce _ _ _ => true
  | .spanOff _ _ _ => true
  | .setRoute _ _ _ value => valueFits value
  | .setDefaultSpan _ _ _ value => valueFits value
  | .setRoster _ _ _ value => valueFits value
  | .setMissLimit _ _ _ value => valueFits value
  | .setPollMs _ _ _ value => valueFits value
  | .setRate _ _ _ value => valueFits value
  | .setAlertEnable _ _ _ value => valueFits value
  | .setAlertReporting _ _ _ value => valueFits value
  | .set _ _ code _ value => valueFits value && !ownSetRow.contains code
  | .get _ _ _ _ => true
  | .clear _ _ _ => true
  | .credit _ _ _ => true
  | .restart _ _ => true
  | .hostFrame bytes => 1 ≤ bytes.length && bytes.length ≤ 100
  | .gapFailure => true
  | .txFrameEnd => true
  | .powerOn => true
  | .startUpEnd _ => true
  | .rstnLow => true
  | .rstnHigh _ => true
  | .discardExpiry key => key.wellFormed
  | .lingerExpiry key => key.wellFormed
  | .settleExpiry _ => true
  | .pollTimerExpiry _ => true
  | .turnaroundComplete _ => true
  | .commandFrameSent _ _ => true
  | .responseStart _ => true
  | .responseWindowExpiry _ => true
  | .responseFrameEnd _ chars => 1 ≤ chars.length && chars.length ≤ 36
  | .backoffExpiry _ => true
  | .lineFault _ => true
  | .hrxByteReceived _ => true
  | .responseCharacter37 _ => true
  | .readyFirstByte => true

end Sys2Proof
end

