-- ==== Sys2Proof/Safety.lean ====
section
/-! DEFINITION. What the spec promises of every state the relay is left in, block by block: the terms in which claims about the whole
machine are stated. -/

namespace Sys2Proof.Machine

/-! ## Alert Unit -/

/-- R131: the count is 0 exactly while the condition is clear, at most 255, and the first cause is present exactly while it is set. -/
def Condition.Sound (c : Condition) : Prop :=
  (c.count ≠ 0 ↔ c.set = true) ∧ c.count ≤ 255 ∧ (c.cause.isSome = true ↔ c.set = true)

/-- R131, R136, R137, R138: every condition is sound, ATTN is asserted if and only if reporting is ON and some enabled condition is
set, and nothing is due while reporting is OFF. -/
def AlertsSound (s : State) : Prop :=
  (∀ n : Fin 10, (s.alerts.condition n).Sound) ∧
  (s.alerts.attn = true ↔
    s.alerts.reporting = true ∧ ∃ n : Fin 10, (s.alerts.condition n).enable = true ∧ (s.alerts.condition n).set = true) ∧
  (s.alerts.due = true → s.alerts.reporting = true)

/-! ## Router -/

/-- R101: every window is in range, and no unit lies in two windows. -/
def RoutesSound (r : Router) : Prop :=
  (∀ i w, r.window i = some w → w.first ≤ w.last ∧ w.last ≤ 4095 ∧ 1 ≤ w.base ∧ w.base + (w.last - w.first) ≤ 15) ∧
  ∀ i j v w (u : Nat), i ≠ j → r.window i = some v → r.window j = some w → ¬ (v.holds u = true ∧ w.holds u = true)

/-! ## Transaction Table -/

/-- R2: at most 16 entries, and no two with equal keys. -/
def TableBounded (s : State) : Prop :=
  s.table.entries.length ≤ 16 ∧ s.table.entries.Pairwise fun a b => a.key ≠ b.key

/-- R3: what a completion record holds, for the entry that holds it. -/
def RecordSound (k : Key) (r : CompletionRecord) : Prop :=
  (r.nodeCode.isSome = true ↔ r.outcome = .nodeRefused) ∧
  (∀ c, r.nodeCode = some c → c ≠ 0#8) ∧
  r.attempts ≤ 15 ∧
  (r.data.isSome = true ↔ k.operation = .read ∧ (r.outcome = .ok ∨ r.outcome = .dataSuspect)) ∧
  ∀ d, r.data = some d → d.length = k.length

/-- The record of an entry, present exactly in HELD and DELIVERED (R3). -/
def EntryState.record : EntryState → Option CompletionRecord
  | .held r _ => some r
  | .delivered r _ => some r
  | .queued => none
  | .running => none
  | .cancelling => none

/-- The subject of a deferred job: an entry in RUNNING or CANCELLING (R5). -/
def Entry.isSubject (e : Entry) : Bool := e.state.isRunning || e.state.isCancelling

/-- R25: an entry with a nonzero barrier is QUEUED, and a barrier is at most the depth of its span's Post Queue. -/
def BarriersSound (s : State) : Prop :=
  ∀ e ∈ s.table.entries, (e.barrier ≠ 0 → e.state = .queued) ∧ e.barrier ≤ (s.span e.span).posts.length

/-- R3, R65: every record is sound, and the job of a span carries the fields of the entry that is its subject. -/
def RecordsSound (s : State) : Prop :=
  ∀ e ∈ s.table.entries,
    (∀ r, e.state.record = some r → RecordSound e.key r) ∧
    (e.isSubject = true → ∃ j, (s.span e.span).job = some j ∧ j.kind = .deferred ∧ j.node = e.node ∧
      j.operation = onSpan e.key.operation ∧ j.item = e.key.item ∧ j.length = e.key.length ∧ j.data = e.key.data)

/-- R27: an entry of a closed span is HELD or DELIVERED. -/
def ClosedSpansHoldNoWork (s : State) : Prop :=
  ∀ e ∈ s.table.entries, (s.span e.span).state.isOpen = false → e.state.record.isSome = true

/-- R57: a span has one entry in RUNNING or CANCELLING while its job is a deferred one, and none otherwise. -/
def SubjectsSound (s : State) : Prop :=
  ∀ sp : Fin 4, s.table.entries.countP (fun e => e.span == sp && e.isSubject) =
    match (s.span sp).job with
    | some j => if j.kind = .deferred then 1 else 0
    | none => 0

/-! ## Span Units -/

/-- R57, R84, R61, R95: what a span's state says of its job, its outputs, its settle timer and its supervision. -/
def SpanUnit.OutputsSound (u : SpanUnit) : Prop :=
  (u.srst = true ↔ u.state.isOpen = false) ∧
  (u.sde = true ↔ ∃ frame, u.phase = some (.sending frame)) ∧
  (u.job.isSome = true → u.state = .active ∨ u.state = .quiescing) ∧
  (u.state = .quiescing → u.job.isSome = true) ∧
  (u.settle.isSome = true ↔ u.state = .starting) ∧
  (u.measure = .stopped ↔ u.state.isOpen = false) ∧
  (u.measure = .heldAtZero ↔ u.sde = true)

/-- `OutputsSound` of every span. -/
def OutputsSound (s : State) : Prop := ∀ sp : Fin 4, (s.span sp).OutputsSound

/-- R32, R33, R35: at most 8 posts, only the head is in progress, it is so exactly while the job is a post job, and a closed span's
queue is empty. -/
def SpanUnit.PostsSound (u : SpanUnit) : Prop :=
  u.posts.length ≤ 8 ∧
  (∀ p ∈ u.posts.tail, p.inProgress = false) ∧
  ((∃ p, u.posts.head? = some p ∧ p.inProgress = true) ↔ ∃ j, u.job = some j ∧ j.kind = .post) ∧
  (u.state.isOpen = false → u.posts = [])

/-- `PostsSound` of every span. -/
def PostsSound (s : State) : Prop := ∀ sp : Fin 4, (s.span sp).PostsSound

/-- R65, R70, R71, R76: what the job record and the engine's phase say of each other. -/
def SpanUnit.JobSound (u : SpanUnit) : Prop :=
  ∀ j, u.job = some j →
    1 ≤ j.limit ∧ j.limit ≤ 15 ∧ j.begun ≤ j.limit ∧
    (j.kind = .poll ↔ j.operation = .poll) ∧ (j.kind = .poll → j.limit = 1) ∧ (j.kind = .post → j.operation = .write) ∧
    match j.phase with
    | .turnaround _ => j.begun < j.limit
    | .sending frame => 1 ≤ j.begun ∧ frame = j.commandFrame
    | .window _ => 1 ≤ j.begun
    | .receiving => 1 ≤ j.begun
    | .backoff _ => j.begun < j.limit

/-- `JobSound` of every span. -/
def JobsSound (s : State) : Prop := ∀ sp : Fin 4, (s.span sp).JobSound

/-- R64: no engine waits in TURNAROUND on a line that has been idle for three character times. -/
def TurnaroundsSound (s : State) : Prop :=
  ∀ (sp : Fin 4) (ms : Nat), (s.span sp).phase = some (.turnaround ms) → (s.span sp).idle3 = false

/-- R112, R116, R117: addresses 1..15 in ascending order, miss counts within the limit, and only a LOST node at the limit. -/
def SpanUnit.RosterSound (u : SpanUnit) : Prop :=
  1 ≤ u.params.missLimit ∧
  u.roster.Pairwise (fun a b => a.address < b.address) ∧
  ∀ r ∈ u.roster, 1 ≤ r.address ∧ r.address ≤ 15 ∧ r.misses ≤ u.params.missLimit ∧
    (r.status ≠ .lost → r.misses < u.params.missLimit)

/-- `RosterSound` of every span. -/
def RosterSound (s : State) : Prop := ∀ sp : Fin 4, (s.span sp).RosterSound

/-- R48, R50: the scheduler's counts stay in their ranges, and a closed span's poll timer is stopped. -/
def SpanUnit.SchedulerSound (u : SpanUnit) : Prop :=
  u.scheduler.runCount ≤ 16 ∧ u.scheduler.passOver ≤ 2 ∧ (u.state.isOpen = false → u.scheduler.pollTimer = .stopped) ∧
  (u.params.pollMs = 0 → u.scheduler.pollTimer = .stopped)

/-- `SchedulerSound` of every span. -/
def SchedulerSound (s : State) : Prop := ∀ sp : Fin 4, (s.span sp).SchedulerSound

/-- R49, R50: work that a scheduler could start. -/
def WorkWaits (s : State) (sp : Fin 4) : Prop :=
  (s.span sp).posts ≠ [] ∨ (∃ e ∈ s.table.entries, e.eligible sp = true) ∨ (s.span sp).pollDue = true

/-- R49, R50: no engine of an ACTIVE span is idle while work waits. -/
def NoIdleWork (s : State) : Prop :=
  ∀ sp : Fin 4, (s.span sp).state = .active → (s.span sp).job = none → ¬ WorkWaits s sp

/-! ## Notice Queue -/

/-- R121, R125, Table 7-3: at most 24 entries, no two with equal span, node and kind, every field in its range, and the credit 0..8. -/
def NoticesSound (s : State) : Prop :=
  s.notices.entries.length ≤ 24 ∧
  s.notices.entries.Pairwise (fun a b => ¬ (a.span = b.span ∧ a.node = b.node ∧ a.kind = b.kind)) ∧
  (∀ n ∈ s.notices.entries,
    1 ≤ n.node ∧ n.node ≤ 15 ∧ 1 ≤ n.kind ∧ n.kind ≤ 65 ∧ n.value ≤ 65535 ∧ 1 ≤ n.count ∧ n.count ≤ 255) ∧
  s.notices.credit ≤ 8

/-! ## Link Interface and relay control -/

/-- R163, R165: the held bytes of a frame in reception do not yet complete it. -/
def ReceiverSound (s : State) : Prop :=
  ∀ l more, s.link.receiver = .collecting (l :: more) → 3 ≤ l.toNat ∧ l.toNat ≤ 96 ∧ more.length < l.toNat + 2

/-- R169, R170, R173, R177: at most 4 frames and 8 slots; a frame waits only in SERVING and only while the Reply Queue is full; only
the oldest slot is SENDING, and it is so exactly while the transmitter sends a reply. -/
def QueuesSound (s : State) : Prop :=
  s.link.intake.length ≤ 4 ∧ s.link.replies.length ≤ 8 ∧
  (s.link.intake ≠ [] → s.control.state = .serving ∧ s.link.replies.length = 8) ∧
  (∀ sl ∈ s.link.replies.tail, sl.sending = false) ∧
  ((∃ sl, s.link.replies.head? = some sl ∧ sl.sending = true) ↔ ∃ b, s.link.transmitter = .sending .reply b)

/-- R174: in SERVING and DRAINING the transmitter is not idle while a reply is FILLED, nor in SERVING while an ALERT is due or a
NOTICE may be sent. -/
def TransmitterSound (s : State) : Prop :=
  s.link.transmitter = .idle →
    s.control.state ≠ .draining ∧
    (s.control.state = .serving →
      s.link.replies = [] ∧ s.alerts.due = false ∧ (s.notices.credit = 0 ∨ s.notices.entries = []))

/-- R154, R155, R156, R158, Table 9-6: READY is in transmission exactly in ANNOUNCING; outside SERVING nothing is received; the DONE
to a RESTART is the last reply exactly in DRAINING; RSTn low and the start-up hold the relay, and nothing else does. -/
def ControlSound (s : State) : Prop :=
  (s.control.state = .announcing ↔ ∃ b bytes, s.link.transmitter = .sending (.ready b) bytes) ∧
  (s.control.state ≠ .serving → s.link.receiver = .hunting) ∧
  (s.control.state = .draining ↔ ∃ sl, s.link.replies.getLast? = some sl ∧ sl.ofRestart = true) ∧
  (∀ sl ∈ s.link.replies.dropLast, sl.ofRestart = false) ∧
  (s.control.state = .held ↔ s.control.rstnHigh = false ∨ s.control.startUp = true)

/-- R154, R157, R158, R159: in HELD and ANNOUNCING every span is OFF and idle, and no entry, notice, credit, alert or reply is
present; in HELD the transmitter sends nothing. -/
def AtRest (s : State) : Prop :=
  (s.control.state = .held → s.link.transmitter = .idle) ∧
  (s.control.state = .held ∨ s.control.state = .announcing →
    s.table.entries = [] ∧ s.notices.entries = [] ∧ s.notices.credit = 0 ∧ s.alerts.due = false ∧ s.link.replies = [] ∧
    (∀ n : Fin 10, (s.alerts.condition n).set = false) ∧
    ∀ sp : Fin 4, (s.span sp).state = .off ∧ (s.span sp).job = none ∧ (s.span sp).scheduler.pollTimer = .stopped)

/-- What the spec promises of the Host Link and of relay control together. -/
def LinkSound (s : State) : Prop := ReceiverSound s ∧ QueuesSound s ∧ TransmitterSound s ∧ ControlSound s ∧ AtRest s

/-! ## Parameters -/

/-- Table 9-1: every per-span parameter is within its range. -/
def SpanParams.InRange (p : SpanParams) : Prop :=
  1 ≤ p.quota ∧ p.quota ≤ 8 ∧ 1 ≤ p.responseMs ∧ p.responseMs ≤ 50 ∧ 1 ≤ p.backoffMs ∧ p.backoffMs ≤ 100 ∧
  p.settleMs ≤ 1000 ∧ p.pollMs ≤ 1000 ∧ 1 ≤ p.missLimit ∧ p.missLimit ≤ 15

/-- R146: every parameter is within the range Table 9-1 gives it. -/
def ParamsInRange (s : State) : Prop :=
  10 ≤ s.params.discardMs ∧ s.params.discardMs ≤ 5000 ∧ s.params.lingerMs ≤ 5000 ∧
  1 ≤ s.params.attempts ∧ s.params.attempts ≤ 15 ∧ 1 ≤ s.params.postBurst ∧ s.params.postBurst ≤ 16 ∧
  ∀ sp : Fin 4, (s.span sp).params.InRange

/-! ## Counters -/

/-- R151: no saturating counter is above 65535. -/
def CountersBounded (s : State) : Prop :=
  s.table.discardCount ≤ 65535 ∧ s.table.reclaimCount ≤ 65535 ∧ s.notices.lost ≤ 65535 ∧
  s.link.linkErrors ≤ 65535 ∧ s.link.intakeOverruns ≤ 65535 ∧ ∀ sp : Fin 4, (s.span sp).postsDiscarded ≤ 65535

/-! ## Host messages: the words in which claims about commands are stated -/

/-- The relay takes a good frame and answers it in the event in which it arrives: SERVING, no frame waiting, a Reply Queue slot free,
no reply left unsent by an idle transmitter. `LinkSound` leaves of this only SERVING and the free slot to ask for. -/
def Ready (s : State) : Prop :=
  s.control.state = .serving ∧ s.link.intake = [] ∧ s.link.replies.length < 8 ∧
  (s.link.transmitter = .idle → s.link.replies = [])

/-- A FILLED slot: the reply to the message with this sequence and originator (R172). -/
def replyTo (seq orig : Byte) (reply : Reply) : Slot :=
  { sequence := seq, originator := orig, reply, ofRestart := false, sending := false }

/-- A reply's body, byte by byte (R172, R179, Tables 10-10 and 10-11): kind, sequence, originator, then the fields. -/
def replyLayout (sl : Slot) : List Byte :=
  match sl.reply with
  | .deferred running => [0x81#8, sl.sequence, sl.originator, if running then 1#8 else 0#8]
  | .completion outcome code attempts replay data =>
    [0x82#8, sl.sequence, sl.originator,
      match outcome with
        | .ok => 0#8 | .dataSuspect => 1#8 | .nodeRefused => 2#8 | .noResponse => 3#8 | .busyExhausted => 4#8
        | .checkFailed => 5#8 | .spanReset => 6#8 | .lineFault => 7#8 | .spanClosed => 8#8,
      code, byteOf attempts, if replay then 1#8 else 0#8, byteOf data.length] ++ data
  | .posted depth => [0x83#8, sl.sequence, sl.originator, byteOf depth]
  | .retryLater reason =>
    [0x84#8, sl.sequence, sl.originator, match reason with | .tableFull => 1#8 | .spanQuota => 2#8 | .postQueueFull => 3#8]
  | .refused reason =>
    [0x85#8, sl.sequence, sl.originator,
      match reason with
        | .malformed => 1#8 | .noRoute => 2#8 | .spanClosed => 3#8 | .badParameter => 4#8 | .badValue => 5#8 | .wrongState => 6#8]
  | .cancelled n => [0x86#8, sl.sequence, sl.originator, byteOf n]
  | .done result => [0x87#8, sl.sequence, sl.originator, byteOf result]
  | .value code index bytes => [0x88#8, sl.sequence, sl.originator, code, index] ++ bytes

/-- A frame of the Host Link with this body, byte by byte (R163, R164, Table 10-8): sync byte, L, the body, and the CRC of L and the body,
high byte first. -/
def frameLayout (body : List Byte) : List Byte :=
  [0xA5#8, byteOf body.length] ++ body ++
    [byteOf ((crc16 (byteOf body.length :: body)).toNat / 256), byteOf (crc16 (byteOf body.length :: body)).toNat]

/-- One condition record (Table 10-13): number, count, enable, shape, and the fields that the shape names. -/
def conditionLayout (number : Byte) (c : Condition) : List Byte :=
  [number, byteOf c.count, if c.enable then 1#8 else 0#8] ++
    match c.cause with
    | none => [0#8]
    | some .none => [0#8]
    | some (.span sp) => [1#8, byteOf sp]
    | some (.spanNode sp node) => [2#8, byteOf sp, byteOf node]
    | some (.originator o) => [3#8, byteOf o]
    | some (.full sp node o unit item) => [4#8, byteOf sp, byteOf node, byteOf o, byteOf (unit / 256), byteOf unit, item]

/-- The alert set as ALERT and ALERT_SET carry it (R139, R143, Tables 10-10 and 10-12): the number of set conditions, then a record of
each, in ascending order of their numbers. -/
def alertLayout (a : AlertUnit) : List Byte :=
  let record (n : Fin 10) : List Byte := if a.conditions[n].set then conditionLayout (byteOf n) a.conditions[n] else []
  [byteOf (a.conditions.toList.countP fun c => c.set)] ++
    record 0 ++ record 1 ++ record 2 ++ record 3 ++ record 4 ++ record 5 ++ record 6 ++ record 7 ++ record 8 ++ record 9

/-- The state with a reply added at the tail of the Reply Queue: an idle transmitter takes it at once (R170, R173, R174). -/
def State.replied (s : State) (sl : Slot) : State :=
  s.setLink (match s.link.transmitter with
    | .idle => { s.link with replies := [{ sl with sending := true }], transmitter := .sending .reply (frameLayout (replyLayout sl)) }
    | .sending _ _ => { s.link with replies := s.link.replies ++ [sl] })

/-- The READ or WRITE that asks for a key (R4, Table 10-9). A WRITE carries no REPLACEABLE flag. -/
def requestCommand (seq : Byte) (k : Key) (replaceable : Bool) : Instr :=
  match k.operation with
  | .read =>
    .read seq (byteOf k.originator) (BitVec.ofNat 16 k.unit) k.item (byteOf k.length) (if replaceable then 1#8 else 0#8)
  | .write => .write seq (byteOf k.originator) (BitVec.ofNat 16 k.unit) k.item (byteOf k.length) k.data

/-- The CANCEL of form KEY that names a key (R22, Table 10-9). -/
def cancelCommand (seq : Byte) (k : Key) : Instr :=
  .cancelKey seq (byteOf k.originator) (match k.operation with | .read => 1#8 | .write => 2#8) (BitVec.ofNat 16 k.unit) k.item
    (byteOf k.length) k.data

/-- The body of a message command as Table 10-9 lays it out; none for the other commands. -/
def messageBody : Instr → Option (List Byte)
  | .read seq orig unit item length flag => some ([0x01#8, seq, orig] ++ bytes16 unit ++ [item, length, flag])
  | .write seq orig unit item length data => some ([0x02#8, seq, orig] ++ bytes16 unit ++ [item, length] ++ data)
  | .post seq orig unit item length data => some ([0x03#8, seq, orig] ++ bytes16 unit ++ [item, length] ++ data)
  | .cancelKey seq orig op unit item length data => some ([0x04#8, seq, orig, 0#8, op] ++ bytes16 unit ++ [item, length] ++ data)
  | .cancelAll seq orig => some [0x04#8, seq, orig, 1#8]
  | .spanEnable seq orig span => some [0x05#8, seq, orig, span, 0#8]
  | .spanQuiesce seq orig span => some [0x05#8, seq, orig, span, 1#8]
  | .spanOff seq orig span => some [0x05#8, seq, orig, span, 2#8]
  | .setRoute seq orig index value => some ([0x06#8, seq, orig, 0x0F#8, index] ++ value)
  | .setDefaultSpan seq orig index value => some ([0x06#8, seq, orig, 0x10#8, index] ++ value)
  | .setRoster seq orig index value => some ([0x06#8, seq, orig, 0x0D#8, index] ++ value)
  | .setMissLimit seq orig index value => some ([0x06#8, seq, orig, 0x0E#8, index] ++ value)
  | .setPollMs seq orig index value => some ([0x06#8, seq, orig, 0x0C#8, index] ++ value)
  | .setRate seq orig index value => some ([0x06#8, seq, orig, 0x07#8, index] ++ value)
  | .setAlertEnable seq orig index value => some ([0x06#8, seq, orig, 0x12#8, index] ++ value)
  | .setAlertReporting seq orig index value => some ([0x06#8, seq, orig, 0x11#8, index] ++ value)
  | .set seq orig code index value => some ([0x06#8, seq, orig, code, index] ++ value)
  | .get seq orig code index => some [0x07#8, seq, orig, code, index]
  | .clear seq orig conditions => some ([0x08#8, seq, orig] ++ bytes16 conditions)
  | .credit seq orig grant => some [0x09#8, seq, orig, grant]
  | .restart seq orig => some [0x0A#8, seq, orig]
  | .hostFrame _ => none
  | .gapFailure => none
  | .txFrameEnd => none
  | .powerOn => none
  | .startUpEnd _ => none
  | .rstnLow => none
  | .rstnHigh _ => none
  | .discardExpiry _ => none
  | .lingerExpiry _ => none
  | .settleExpiry _ => none
  | .pollTimerExpiry _ => none
  | .turnaroundComplete _ => none
  | .commandFrameSent _ _ => none
  | .responseStart _ => none
  | .responseWindowExpiry _ => none
  | .responseFrameEnd _ _ => none
  | .backoffExpiry _ => none
  | .lineFault _ => none
  | .hrxByteReceived _ => none
  | .responseCharacter37 _ => none
  | .readyFirstByte => none

/-- The range of a unit number and of a data length (Table 10-5). -/
def unitAndLengthOk (unit : Word16) (length : Byte) : Bool :=
  decide (unit.toNat < 4096) && decide (1 ≤ length.toNat) && decide (length.toNat ≤ 32)

/-- The envelope checks of Table 10-5 on the fields of a message command, the originator's included (R171). -/
def envelopeOk : Instr → Bool
  | .read _ orig unit _ length flag =>
    decide (orig.toNat < 8) && unitAndLengthOk unit length && decide (flag.toNat ≤ 1)
  | .write _ orig unit _ length data =>
    decide (orig.toNat < 8) && unitAndLengthOk unit length && data.length == length.toNat
  | .post _ orig unit _ length data =>
    decide (orig.toNat < 8) && unitAndLengthOk unit length && data.length == length.toNat
  | .cancelKey _ orig op unit _ length data =>
    decide (orig.toNat < 8) && unitAndLengthOk unit length &&
      ((op == 1#8 && data.isEmpty) || (op == 2#8 && data.length == length.toNat))
  | .cancelAll _ orig => decide (orig.toNat < 8)
  | .spanEnable _ orig span => decide (orig.toNat < 8) && decide (span.toNat < 4)
  | .spanQuiesce _ orig span => decide (orig.toNat < 8) && decide (span.toNat < 4)
  | .spanOff _ orig span => decide (orig.toNat < 8) && decide (span.toNat < 4)
  | .setRoute _ orig _ _ => decide (orig.toNat < 8)
  | .setDefaultSpan _ orig _ _ => decide (orig.toNat < 8)
  | .setRoster _ orig _ _ => decide (orig.toNat < 8)
  | .setMissLimit _ orig _ _ => decide (orig.toNat < 8)
  | .setPollMs _ orig _ _ => decide (orig.toNat < 8)
  | .setRate _ orig _ _ => decide (orig.toNat < 8)
  | .setAlertEnable _ orig _ _ => decide (orig.toNat < 8)
  | .setAlertReporting _ orig _ _ => decide (orig.toNat < 8)
  | .set _ orig _ _ _ => decide (orig.toNat < 8)
  | .get _ orig _ _ => decide (orig.toNat < 8)
  | .clear _ orig conditions => decide (orig.toNat < 8) && decide (conditions.toNat < 1024)
  | .credit _ orig grant => decide (orig.toNat < 8) && decide (grant.toNat ≤ 8)
  | .restart _ orig => decide (orig.toNat < 8)
  | .hostFrame _ => true
  | .gapFailure => true
  | .txFrameEnd => true
  | .powerOn => true
  | .startUpEnd _ => true
  | .rstnLow => true
  | .rstnHigh _ => true
  | .discardExpiry _ => true
  | .lingerExpiry _ => true
  | .settleExpiry _ => true
  | .pollTimerExpiry _ => true
  | .turnaroundComplete _ => true
  | .commandFrameSent _ _ => true
  | .responseStart _ => true
  | .responseWindowExpiry _ => true
  | .responseFrameEnd _ _ => true
  | .backoffExpiry _ => true
  | .lineFault _ => true
  | .hrxByteReceived _ => true
  | .responseCharacter37 _ => true
  | .readyFirstByte => true

/-! ## Parameters: the words in which claims about SET are stated -/

/-- How many indexes a parameter or read-only item has; 0 for a code that names neither (Tables 9-1 and 9-3). -/
def indexCount (code : Byte) : Nat :=
  if code ∈ [0x01#8, 0x02#8, 0x04#8, 0x05#8, 0x10#8, 0x11#8, 0x40#8, 0x41#8, 0x42#8, 0x43#8, 0x4D#8, 0x4E#8, 0x4F#8, 0x50#8, 0x51#8] then 1
  else if code ∈ [0x03#8, 0x07#8, 0x08#8, 0x09#8, 0x0A#8, 0x0B#8, 0x0C#8, 0x0D#8, 0x0E#8, 0x44#8, 0x45#8, 0x46#8, 0x47#8, 0x48#8, 0x49#8, 0x4A#8, 0x4B#8, 0x4C#8] then 4
  else if code ∈ [0x06#8, 0x0F#8] then 8
  else if code = 0x12#8 then 10
  else 0

/-- A SET value that Table 9-1 and Table 10-12 allow: so many bytes, a number within a range. -/
structure ValueRange where
  width : Nat
  low   : Nat
  high  : Nat
deriving DecidableEq, Repr

/-- The parameters whose SET changes the parameter alone, with the values they take (Tables 9-1, 9-2, 10-12). -/
def plainParameter (code : Byte) : Option ValueRange :=
  match code.toNat with
  | 0x01 => some { width := 2, low := 10, high := 5000 }
  | 0x02 => some { width := 2, low := 0, high := 5000 }
  | 0x03 => some { width := 1, low := 1, high := 8 }
  | 0x04 => some { width := 1, low := 1, high := 15 }
  | 0x05 => some { width := 1, low := 1, high := 16 }
  | 0x06 => some { width := 1, low := 0, high := 1 }
  | 0x08 => some { width := 1, low := 1, high := 50 }
  | 0x09 => some { width := 1, low := 1, high := 100 }
  | 0x0A => some { width := 2, low := 0, high := 1000 }
  | 0x0B => some { width := 1, low := 0, high := 1 }
  | _ => none

/-- The number a value carries, high byte first (0.5). -/
def valueNumber (value : List Byte) : Nat := value.foldl (fun n b => n * 256 + b.toNat) 0

/-- A value that a parameter takes. -/
def ValueRange.Takes (v : ValueRange) (value : List Byte) : Prop :=
  value.length = v.width ∧ v.low ≤ valueNumber value ∧ valueNumber value ≤ v.high

/-- Replace the per-span parameters of one span. -/
def State.withSpanParams (s : State) (index : Byte) (f : SpanParams → SpanParams) : State :=
  s.updateSpan (Fin.ofNat 4 index.toNat) fun u => { u with params := f u.params }

/-- The state with one parameter of `plainParameter` replaced, and nothing else (R147). -/
def State.withParameter (s : State) (code index : Byte) (n : Nat) : State :=
  match code.toNat with
  | 0x01 => s.setParams { s.params with discardMs := n }
  | 0x02 => s.setParams { s.params with lingerMs := n }
  | 0x03 => s.withSpanParams index fun p => { p with quota := n }
  | 0x04 => s.setParams { s.params with attempts := n }
  | 0x05 => s.setParams { s.params with postBurst := n }
  | 0x06 =>
    s.setParams { s.params with tier := s.params.tier.set (Fin.ofNat 8 index.toNat) (if n = 1 then .high else .low) }
  | 0x08 => s.withSpanParams index fun p => { p with responseMs := n }
  | 0x09 => s.withSpanParams index fun p => { p with backoffMs := n }
  | 0x0A => s.withSpanParams index fun p => { p with settleMs := n }
  | 0x0B => s.withSpanParams index fun p => { p with closedAnswer := if n = 1 then .fail else .refuse }
  | _ => s

/-- The window, or EMPTY, that a ROUTE value gives the entry at an index, the checks of Table 6-3 and Table 10-12 passed. -/
def RouteValue (r : Router) (i : Fin 8) (value : List Byte) (w : Option Window) : Prop :=
  (value = [0#8] ∧ w = none) ∨
  ∃ (f1 f0 l1 l0 : Byte) (sp : Fin 4) (base : Byte),
    value = [1#8, f1, f0, l1, l0, byteOf sp, base] ∧
    w = some { first := valueNumber [f1, f0], last := valueNumber [l1, l0], span := sp, base := base.toNat } ∧
    valueNumber [f1, f0] ≤ valueNumber [l1, l0] ∧ valueNumber [l1, l0] ≤ 4095 ∧
    1 ≤ base.toNat ∧ base.toNat + (valueNumber [l1, l0] - valueNumber [f1, f0]) ≤ 15 ∧
    ∀ j v, j ≠ i → r.window j = some v → ¬ (valueNumber [f1, f0] ≤ v.last ∧ v.first ≤ valueNumber [l1, l0])

/-! ## Attempts -/

/-- A command that ends the attempt of a job with a result, and whether SDn has then been idle for three character times: the window
expires, the response frame ends, or its 37th character begins (R63, R68, R69). -/
def EndsAttempt (c : Instr) (sp : Fin 4) (j : Job) (r : AttemptResult) (idle : Bool) : Prop :=
  (c = .responseWindowExpiry sp ∧ (∃ ms, j.phase = .window ms) ∧ r = .silent ∧ idle = true) ∨
  (∃ chars, c = .responseFrameEnd sp chars ∧ j.phase = .receiving ∧ r = j.judge chars ∧ idle = true) ∨
  (c = .responseCharacter37 sp ∧ j.phase = .receiving ∧ r = .garbled none ∧ idle = false)

/-- A Span Unit with its attempt's result counted (R82) and kept (R70). -/
def SpanUnit.counted (u : SpanUnit) (j : Job) (r : AttemptResult) (idle : Bool) : SpanUnit :=
  { u with
    idle3 := idle
    job := some { j with lastResult := some r }
    counters := { u.counters with
      attemptsBusy := u.counters.attemptsBusy + match r with | .busy => 1 | _ => 0
      attemptsSilent := u.counters.attemptsSilent + match r with | .silent => 1 | _ => 0
      attemptsGarbled := u.counters.attemptsGarbled + match r with | .garbled _ => 1 | _ => 0 } }

/-- A job that its attempt's result ends: at once by DONE or REFUSED, else at its attempt limit (R72 to R75). -/
def EndsJob (j : Job) (r : AttemptResult) : Prop :=
  (∃ d, r = .done d) ∨ (∃ c, r = .refused c) ∨ j.limit ≤ j.begun

/-- What follows a job's hand-over (R77, R91, R49): the job is completed and gone; QUIESCING becomes QUIESCED, else a decision is
made. -/
def State.afterJob (s : State) (sp : Fin 4) : State :=
  let u := s.span sp
  let free : SpanUnit := { u with job := none, counters := { u.counters with jobsCompleted := u.counters.jobsCompleted + 1 } }
  if u.state = .quiescing then s.setSpan sp { free with state := .quiesced } else (s.setSpan sp free).schedule sp

/-- The completion record of a job that ends so (R72, R75, Tables 1-4 and 4-7). -/
def recordOf (j : Job) : AttemptResult → CompletionRecord
  | .done data => { outcome := .ok, nodeCode := none, attempts := j.begun, data := if j.operation = .read then some data else none }
  | .refused code => { outcome := .nodeRefused, nodeCode := some code, attempts := j.begun, data := none }
  | .busy => { outcome := .busyExhausted, nodeCode := none, attempts := j.begun, data := none }
  | .silent => { outcome := .noResponse, nodeCode := none, attempts := j.begun, data := none }
  | .garbled (some data) =>
    if j.operation = .read then { outcome := .dataSuspect, nodeCode := none, attempts := j.begun, data := some data }
    else { outcome := .checkFailed, nodeCode := none, attempts := j.begun, data := none }
  | .garbled none => { outcome := .checkFailed, nodeCode := none, attempts := j.begun, data := none }
  | .notice _ _ => { outcome := .checkFailed, nodeCode := none, attempts := j.begun, data := none }
  | .nothing => { outcome := .checkFailed, nodeCode := none, attempts := j.begun, data := none }

/-- The entries a cleanup claim leaves of a span (R26, R27). -/
def cleaned (sp : Fin 4) (o : CompletionOutcome) (begun discardMs : Nat) (es : List Entry) : List Entry :=
  es.filterMap fun e =>
    if e.span = sp then
      match e.state with
      | .queued =>
        some { e with barrier := 0, state := .held { outcome := o, nodeCode := none, attempts := 0, data := none } discardMs }
      | .running =>
        some { e with barrier := 0, state := .held { outcome := o, nodeCode := none, attempts := begun, data := none } discardMs }
      | .cancelling => none
      | .held r d => some { e with barrier := 0, state := .held r d }
      | .delivered r l => some { e with barrier := 0, state := .delivered r l }
    else some e

end Sys2Proof.Machine
end

