-- ==== Sys2Proof/Certificates/Slice0/Obligations.lean ====
section
/-! DEFINITION. The statements for the provers. A statement about a command gives the whole next state as an equation, so that it
says at once that the command completes, what it changes, and that nothing else changes. `Ready`, `State.replied` and the other words
they use stand in Sys2Proof/Safety.lean. -/

open Sys2Proof Sys2Proof.Machine

/-! ## The machine as a whole -/

/-- A step takes the command at the front of the queue and runs it with the queue's rest; on an empty queue the relay idles. The
queue is the model's own (log 1). -/
def Obligations.StepRunsTheFrontCommand : Prop :=
  (∀ (c : Instr) (rest : List Instr) (s : State), s.pending = c :: rest → step s = exec c (s.setPending rest)) ∧
  ∀ s : State, s.pending = [] → step s = .next s

/-- Every command completes in every state, and leaves the commands that wait as they were. The queue is the model's own (log 1),
and it is the model's choice that a command completes, with no effect, where the state rules its event out (log 9). -/
def Obligations.EveryCommandCompletes : Prop :=
  ∀ (c : Instr) (s : State), ∃ t, exec c s = .next t ∧ t.pending = s.pending

/-- After power-on every block holds the values the spec gives (Tables 3-1, 7-1, 8-2, 9-1, 10-1; R31, R44, R82, R99, R111, R130). -/
def Obligations.ResetHoldsTheValuesOfTheSpec : Prop :=
  let s := State.reset
  s.control.state = .held ∧ s.control.readyBegun = false ∧
  s.table = { entries := [], discardCount := 0, reclaimCount := 0 } ∧
  (∀ i, s.router.window i = none) ∧ s.router.defaultSpan = none ∧
  s.notices = { entries := [], credit := 0, lost := 0 } ∧
  (∀ n, s.alerts.condition n = { set := false, enable := true, count := 0, cause := none }) ∧
  s.alerts.reporting = false ∧ s.alerts.due = false ∧ s.alerts.attn = false ∧
  s.link.receiver = .hunting ∧ s.link.intake = [] ∧ s.link.replies = [] ∧ s.link.transmitter = .idle ∧ s.link.unsolicited = 0#8 ∧
  s.link.linkErrors = 0 ∧ s.link.intakeOverruns = 0 ∧
  s.params.discardMs = 500 ∧ s.params.lingerMs = 100 ∧ s.params.attempts = 4 ∧ s.params.postBurst = 4 ∧
  s.params.tier = #v[.high, .low, .low, .low, .low, .low, .low, .low] ∧
  ∀ sp : Fin 4,
    (s.span sp).state = .off ∧ (s.span sp).srst = true ∧ (s.span sp).sde = false ∧ (s.span sp).settle = none ∧
    (s.span sp).measure = .stopped ∧ (s.span sp).posts = [] ∧ (s.span sp).postsDiscarded = 0 ∧ (s.span sp).job = none ∧
    (s.span sp).scheduler = { runCount := 0, passOver := 0, high := 8, low := 7, pollTimer := .stopped } ∧
    (s.span sp).counters =
      { jobsCompleted := 0, attemptsMade := 0, attemptsBusy := 0, attemptsSilent := 0, attemptsGarbled := 0 } ∧
    (s.span sp).roster = [] ∧ (s.span sp).pollPosition = 0 ∧
    (s.span sp).params =
      { quota := 4, rate := .r250, responseMs := 10, backoffMs := 5, settleMs := 100, closedAnswer := .refuse, pollMs := 50
        missLimit := 3 }

/-- The state after reset satisfies every invariant stated below. -/
def Obligations.ResetSatisfiesEveryInvariant : Prop :=
  let s := State.reset
  AlertsSound s ∧ RoutesSound s.router ∧ TableBounded s ∧ BarriersSound s ∧ ClosedSpansHoldNoWork s ∧ SubjectsSound s ∧
  RecordsSound s ∧ OutputsSound s ∧ PostsSound s ∧ SchedulerSound s ∧ JobsSound s ∧ TurnaroundsSound s ∧ RosterSound s ∧
  NoIdleWork s ∧ NoticesSound s ∧ LinkSound s ∧ ParamsInRange s ∧ CountersBounded s

/-! ## Invariants that every step keeps -/

/-- R131, R136: every step keeps each condition's count and first cause in step with its flag, and ATTN asserted if and only if
reporting is ON and an enabled condition is set. -/
def Obligations.AlertsStaySound : Prop :=
  ∀ s t : State, AlertsSound s → step s = .next t → AlertsSound t

/-- R101: every step keeps the windows in range and apart. -/
def Obligations.RoutesStaySound : Prop :=
  ∀ s t : State, RoutesSound s.router → step s = .next t → RoutesSound t.router

/-- R2, R25, R27: every step keeps the table at 16 entries with different keys, every barrier on a QUEUED entry and at most the queue's
depth, and closed spans free of work. -/
def Obligations.TableStaysSound : Prop :=
  ∀ s t : State, TableBounded s → BarriersSound s → ClosedSpansHoldNoWork s → step s = .next t →
    TableBounded t ∧ BarriersSound t ∧ ClosedSpansHoldNoWork t

/-- R57: every step keeps one entry in RUNNING or CANCELLING on a span whose job is deferred, and none on any other. -/
def Obligations.SubjectsStaySound : Prop :=
  ∀ s t : State, TableBounded s → OutputsSound s → SubjectsSound s → step s = .next t → SubjectsSound t

/-- R3, R65: every step keeps every completion record sound, and a deferred job's fields those of its entry. -/
def Obligations.RecordsStaySound : Prop :=
  ∀ s t : State, TableBounded s → OutputsSound s → SubjectsSound s → JobsSound s → RecordsSound s → step s = .next t →
    RecordsSound t

/-- R57, R84, R33, R48, R64, R70: every step keeps what a span's state, outputs, posts, scheduler and job say of each other, and leaves
no engine waiting in TURNAROUND on a line that is idle already. The idle measure is as log 6 gives it. -/
def Obligations.SpansStaySound : Prop :=
  ∀ s t : State, ParamsInRange s → OutputsSound s → PostsSound s → SchedulerSound s → JobsSound s → step s = .next t →
    OutputsSound t ∧ PostsSound t ∧ SchedulerSound t ∧ JobsSound t ∧ (TurnaroundsSound s → TurnaroundsSound t)

/-- R112, R117: every step keeps the rosters in ascending order and the miss counts within the limit. -/
def Obligations.RostersStaySound : Prop :=
  ∀ s t : State, RosterSound s → step s = .next t → RosterSound t

/-- R49, R50: after every step, no engine of an ACTIVE span is idle while a post, an eligible entry or a due poll waits. -/
def Obligations.NoEngineIdlesWhileWorkWaits : Prop :=
  ∀ s t : State, OutputsSound s → NoIdleWork s → step s = .next t → NoIdleWork t

/-- R165, R169, R173, R174, Table 9-6: every step keeps the Host Link's queues, transmitter and receiver and the control state
sound. The transmitter's choice in the same step is the model's reading (log 3). -/
def Obligations.LinkStaysSound : Prop :=
  ∀ s t : State, LinkSound s → step s = .next t → LinkSound t

/-- R121, R125, R146, R151, Tables 7-3 and 9-1: every step keeps the notices, with every field of theirs, every parameter and every
saturating counter within its range. -/
def Obligations.ValuesStayInRange : Prop :=
  ∀ s t : State, RosterSound s → NoticesSound s → ParamsInRange s → CountersBounded s → step s = .next t →
    NoticesSound t ∧ ParamsInRange t ∧ CountersBounded t

/-! ## Host messages -/

/-- R171: a message that fails an envelope check is answered REFUSED(MALFORMED) and has no other effect. All 21 message rows. That
it is answered in its own step is the model's reading (logs 2, 3). -/
def Obligations.MalformedMessageIsRefused : Prop :=
  ∀ (c : Instr) (kind seq orig : Byte) (fields : List Byte) (s : State),
    Ready s → messageBody c = some (kind :: seq :: orig :: fields) → envelopeOk c = false →
    exec c s = .next (s.replied (replyTo seq orig (.refused .malformed)))

/-- R6 to R9: a repeat is answered from its entry, by the entry's state. READ and WRITE. That it is answered in its own step is the
model's reading (logs 2, 3). -/
def Obligations.RepeatIsAnsweredFromItsEntry : Prop :=
  ∀ (seq : Byte) (k : Key) (flag : Bool) (e : Entry) (s : State),
    Ready s → TableBounded s → k.wellFormed = true → e ∈ s.table.entries → e.key = k →
    exec (requestCommand seq k flag) s = .next
      (match e.state with
      | .queued => s.replied (replyTo seq (byteOf k.originator) (.deferred false))
      | .running => s.replied (replyTo seq (byteOf k.originator) (.deferred true))
      | .cancelling =>
        (s.setEntries (s.table.entries.map fun x => if x.key = k then { x with state := .running } else x)).replied
          (replyTo seq (byteOf k.originator) (.deferred true))
      | .held r _ =>
        (s.setEntries
          (if s.params.lingerMs = 0 then s.table.entries.filter fun x => x.key ≠ k
           else s.table.entries.map fun x => if x.key = k then { x with state := .delivered r s.params.lingerMs } else x)).replied
          (replyTo seq (byteOf k.originator) (.completion r.outcome (r.nodeCode.getD 0#8) r.attempts false (r.data.getD [])))
      | .delivered r _ =>
        s.replied
          (replyTo seq (byteOf k.originator) (.completion r.outcome (r.nodeCode.getD 0#8) r.attempts true (r.data.getD []))))

/-- R10, R11, R15: a new request is judged by its route, its span's state and the room there is, in this order, and created QUEUED
behind the posts of its span, or HELD with SPAN_CLOSED. READ and WRITE. That it is answered in its own step is the model's reading
(logs 2, 3). A job's first attempt on an idle line begins with the decision (log 6). -/
def Obligations.NewRequestIsJudgedInOrder : Prop :=
  ∀ (seq : Byte) (k : Key) (flag : Bool) (s : State),
    Ready s → k.wellFormed = true → (∀ e ∈ s.table.entries, e.key ≠ k) →
    exec (requestCommand seq k flag) s = .next
      (match s.router.resolve k.unit with
      | none => s.replied (replyTo seq (byteOf k.originator) (.refused .noRoute))
      | some (sp, node) =>
        if (s.span sp).state.isOpen = false ∧ (s.span sp).params.closedAnswer = .refuse then
          s.replied (replyTo seq (byteOf k.originator) (.refused .spanClosed))
        else
          match s.table.room sp (s.span sp).params.quota with
          | .error reason => s.replied (replyTo seq (byteOf k.originator) (.retryLater reason))
          | .ok table =>
            let e : Entry :=
              { key := k, replaceable := flag && k.operation == .read, span := sp, node := node, state := .queued
                barrier := (s.span sp).posts.length }
            let spanClosed : CompletionRecord := { outcome := .spanClosed, nodeCode := none, attempts := 0, data := none }
            (if (s.span sp).state.isOpen = true then
              let accepted := s.setTable { table with entries := table.entries ++ [e] }
              if (s.span sp).posts = [] then accepted.schedule sp else accepted
            else
              s.setTable { table with
                entries := table.entries ++ [{ e with state := .held spanClosed s.params.discardMs, barrier := 0 }] }).replied
              (replyTo seq (byteOf k.originator) (.deferred false)))

/-- R12, R13, R14: room for a request on a span is made by at most one reclaim, of the oldest DELIVERED entry or else of the oldest
replaceable HELD one: among the entries of the span when its quota is reached, else among all when the table is full. -/
def Obligations.RoomIsMadeByOneReclaim : Prop :=
  ∀ (t : TransactionTable) (sp : Fin 4) (quota : Nat),
    t.entries.length ≤ 16 → t.entries.Pairwise (fun a b => a.key ≠ b.key) →
    let overQuota : Bool := decide (quota ≤ t.entries.countP fun e => e.span == sp)
    let among (e : Entry) : Bool := if overQuota then e.span == sp else true
    let delivered := t.entries.find? fun e => among e && e.state.isDelivered
    let replaceable := t.entries.find? fun e => among e && e.state.isHeld && e.replaceable
    t.room sp quota =
      if overQuota = false ∧ t.entries.length < 16 then .ok t
      else
        match delivered, replaceable with
        | some v, _ => .ok { t with entries := t.entries.filter fun e => e.key ≠ v.key }
        | none, some v =>
          .ok { t with entries := t.entries.filter fun e => e.key ≠ v.key, reclaimCount := min 65535 (t.reclaimCount + 1) }
        | none, none => .error (if overQuota then .spanQuota else .tableFull)

/-- R34, R35, R36, Table 2-2: a POST is refused, dropped under FAIL, told to come later, or appended to its span's queue. That it is
answered in its own step is the model's reading (logs 2, 3). A job's first attempt on an idle line begins with the decision (log 6). -/
def Obligations.PostIsAnsweredByItsSpan : Prop :=
  ∀ (seq : Byte) (o : Fin 8) (unit : Fin 4096) (item : Byte) (data : List Byte) (s : State),
    Ready s → 1 ≤ data.length → data.length ≤ 32 →
    exec (.post seq (byteOf o) (BitVec.ofNat 16 unit) item (byteOf data.length) data) s = .next
      (match s.router.resolve unit with
      | none => s.replied (replyTo seq (byteOf o) (.refused .noRoute))
      | some (sp, node) =>
        let u := s.span sp
        if u.state.isOpen = true then
          if 8 ≤ u.posts.length then s.replied (replyTo seq (byteOf o) (.retryLater .postQueueFull))
          else
            ((s.setSpan sp
              { u with
                posts := u.posts ++ [{ originator := o, unit, node, item, length := data.length, data, inProgress := false }] }).schedule
              sp).replied (replyTo seq (byteOf o) (.posted (u.posts.length + 1)))
        else if u.params.closedAnswer = .refuse then s.replied (replyTo seq (byteOf o) (.refused .spanClosed))
        else
          ((s.setSpan sp { u with postsDiscarded := min 65535 (u.postsDiscarded + 1) }).raise .postDiscarded
            (.full sp node o unit item)).replied (replyTo seq (byteOf o) (.posted 0)))

/-- R22, R23: a CANCEL frees an entry that is QUEUED, HELD or DELIVERED, makes a RUNNING one CANCELLING, leaves a CANCELLING one,
and answers the number freed or changed: form KEY the one entry of that key, form ALL every entry of the originator. That it is
answered in its own step is the model's reading (logs 2, 3). -/
def Obligations.CancelReachesItsOriginatorsEntries : Prop :=
  ∀ (seq : Byte) (s : State),
    let left (e : Entry) : Option Entry :=
      match e.state with
      | .queued => none
      | .running => some { e with state := .cancelling }
      | .cancelling => some e
      | .held _ _ => none
      | .delivered _ _ => none
    Ready s → TableBounded s →
    (∀ k : Key, k.wellFormed = true →
      exec (cancelCommand seq k) s = .next
        ((s.setEntries (s.table.entries.filterMap fun e => if e.key = k then left e else some e)).replied
          (replyTo seq (byteOf k.originator)
            (.cancelled (if s.table.entries.any fun e => e.key == k && e.state != .cancelling then 1 else 0))))) ∧
    ∀ o : Fin 8,
      exec (.cancelAll seq (byteOf o)) s = .next
        ((s.setEntries (s.table.entries.filterMap fun e => if e.key.originator = o then left e else some e)).replied
          (replyTo seq (byteOf o)
            (.cancelled (s.table.entries.countP fun e => e.key.originator == o && e.state != .cancelling))))

/-! ## SPAN messages -/

/-- R87: SPAN ENABLE by the span's state. The idle measure that ENABLE starts from is the model's (log 6). That it is answered in
its own step is the model's reading (logs 2, 3). -/
def Obligations.SpanEnableByState : Prop :=
  ∀ (seq : Byte) (o : Fin 8) (sp : Fin 4) (s : State), Ready s →
    let u := s.span sp
    let done := replyTo seq (byteOf o) (.done 0)
    exec (.spanEnable seq (byteOf o) (byteOf sp)) s = .next
      (match u.state with
      | .off =>
        (s.setSpan sp
          { u with
            state := .starting, srst := false, settle := some u.params.settleMs, measure := .running, idle3 := true
            scheduler := { u.scheduler with pollTimer := if u.params.pollMs = 0 then .stopped else .expired } }).replied done
      | .starting => s.replied done
      | .active => s.replied done
      | .quiescing => (s.setSpan sp { u with state := .active }).replied done
      | .quiesced => ((s.setSpan sp { u with state := .active }).schedule sp).replied done
      | .faulted => s.replied (replyTo seq (byteOf o) (.refused .wrongState)))

/-- R90: SPAN QUIESCE by the span's state: nothing but the state changes, and only from ACTIVE. That it is answered in its own step
is the model's reading (logs 2, 3). -/
def Obligations.SpanQuiesceByState : Prop :=
  ∀ (seq : Byte) (o : Fin 8) (sp : Fin 4) (s : State), Ready s →
    let u := s.span sp
    let done := replyTo seq (byteOf o) (.done 0)
    let wrongState := replyTo seq (byteOf o) (.refused .wrongState)
    exec (.spanQuiesce seq (byteOf o) (byteOf sp)) s = .next
      (match u.state, u.job with
      | .active, some _ => (s.setSpan sp { u with state := .quiescing }).replied done
      | .active, none => (s.setSpan sp { u with state := .quiesced }).replied done
      | .quiescing, _ => s.replied done
      | .quiesced, _ => s.replied done
      | .off, _ => s.replied wrongState
      | .starting, _ => s.replied wrongState
      | .faulted, _ => s.replied wrongState)

/-- R92, R26, R41, R78, R98: SPAN OFF of an open span, one event: outputs, job, posts, entries, roster, scheduler and timers. That
it is answered in its own step is the model's reading (logs 2, 3). -/
def Obligations.SpanOffOfAnOpenSpan : Prop :=
  ∀ (seq : Byte) (o : Fin 8) (sp : Fin 4) (s : State), Ready s → (s.span sp).state.isOpen = true →
    let u := s.span sp
    let begun := match u.job with | some j => j.begun | none => 0
    let off : SpanUnit :=
      { u with
        state := .off, srst := true, sde := false, settle := none, measure := .stopped, job := none, posts := []
        postsDiscarded := min 65535 (u.postsDiscarded + u.posts.length)
        roster := u.roster.map fun r => { r with status := .unseen, misses := 0 }
        scheduler := { runCount := 0, passOver := 0, high := 8, low := 7, pollTimer := .stopped } }
    SubjectsSound s →
    exec (.spanOff seq (byteOf o) (byteOf sp)) s = .next
      ((let cleanedUp := (s.setSpan sp off).setEntries (cleaned sp .spanReset begun s.params.discardMs s.table.entries)
        match u.posts with
        | [] => cleanedUp
        | p :: _ => cleanedUp.raise .postDiscarded (.full sp p.node p.originator p.unit p.item)).replied
        (replyTo seq (byteOf o) (.done 0)))

/-- R93: SPAN OFF of a closed span: no effect in OFF; from FAULTED the state and the scheduler state alone change. That it is
answered in its own step is the model's reading (logs 2, 3). -/
def Obligations.SpanOffOfAClosedSpan : Prop :=
  ∀ (seq : Byte) (o : Fin 8) (sp : Fin 4) (s : State),
    Ready s → BarriersSound s → ClosedSpansHoldNoWork s →
    let u := s.span sp
    let done := replyTo seq (byteOf o) (.done 0)
    (u.state = .off → exec (.spanOff seq (byteOf o) (byteOf sp)) s = .next (s.replied done)) ∧
    (u.state = .faulted →
      exec (.spanOff seq (byteOf o) (byteOf sp)) s = .next
        ((s.setSpan sp
          { u with state := .off, scheduler := { runCount := 0, passOver := 0, high := 8, low := 7, pollTimer := .stopped } }).replied
          done))

/-! ## SET and GET -/

/-- R105, R106, R107: a SET of ROUTE replaces one whole entry, and a SET of DEFAULT_SPAN the default span; a value outside Table 6-3
or Table 9-1 is refused BAD_VALUE and an index outside its range BAD_PARAMETER, with nothing changed. That it is answered in its own
step is the model's reading (logs 2, 3). -/
def Obligations.SetOfRouting : Prop :=
  ∀ (seq : Byte) (o : Fin 8) (index : Byte) (value : List Byte) (s : State), Ready s →
    let done := replyTo seq (byteOf o) (.done 0)
    let badValue := replyTo seq (byteOf o) (.refused .badValue)
    let badParameter := replyTo seq (byteOf o) (.refused .badParameter)
    (∀ i : Fin 8, index = byteOf i →
      (∀ w, RouteValue s.router i value w →
        exec (.setRoute seq (byteOf o) index value) s = .next
          ((s.setRouter { s.router with windows := s.router.windows.set i w }).replied done)) ∧
      ((¬ ∃ w, RouteValue s.router i value w) →
        exec (.setRoute seq (byteOf o) index value) s = .next (s.replied badValue))) ∧
    (8 ≤ index.toNat → exec (.setRoute seq (byteOf o) index value) s = .next (s.replied badParameter)) ∧
    (index = 0#8 →
      (∀ sp : Fin 4, value = [byteOf sp] →
        exec (.setDefaultSpan seq (byteOf o) index value) s = .next
          ((s.setRouter { s.router with defaultSpan := some sp }).replied done)) ∧
      (value = [0xFF#8] →
        exec (.setDefaultSpan seq (byteOf o) index value) s = .next
          ((s.setRouter { s.router with defaultSpan := none }).replied done)) ∧
      ((∀ sp : Fin 4, value ≠ [byteOf sp]) → value ≠ [0xFF#8] →
        exec (.setDefaultSpan seq (byteOf o) index value) s = .next (s.replied badValue))) ∧
    (index ≠ 0#8 → exec (.setDefaultSpan seq (byteOf o) index value) s = .next (s.replied badParameter))

/-- R113, R55: a SET of ROSTER replaces the membership: a node kept keeps its record, a new one is UNSEEN with 0 misses, in
ascending order and once each; a decision follows when the roster is left non-empty with the poll timer expired. That it is answered
in its own step is the model's reading (logs 2, 3). A job's first attempt on an idle line begins with the decision (log 6). -/
def Obligations.SetOfRoster : Prop :=
  ∀ (seq : Byte) (o : Fin 8) (sp : Fin 4) (index count : Byte) (addresses value : List Byte) (s : State), Ready s →
    (addresses.length = count.toNat → count.toNat ≤ 15 → (∀ a ∈ addresses, 1 ≤ a.toNat ∧ a.toNat ≤ 15) →
      let u := s.span sp
      let record (a : Nat) : NodeRecord :=
        match u.roster.find? fun r => r.address = a with
        | some r => r
        | none => { address := a, status := .unseen, misses := 0 }
      let members := (List.range' 1 15).filter fun a => byteOf a ∈ addresses
      let changed := s.setSpan sp { u with roster := members.map record }
      exec (.setRoster seq (byteOf o) (byteOf sp) (count :: addresses)) s = .next
        ((if u.scheduler.pollTimer = .expired ∧ addresses ≠ [] then changed.schedule sp else changed).replied
          (replyTo seq (byteOf o) (.done 0)))) ∧
    ((∀ (n : Byte) (as : List Byte), value = n :: as →
        ¬ (as.length = n.toNat ∧ n.toNat ≤ 15 ∧ ∀ a ∈ as, 1 ≤ a.toNat ∧ a.toNat ≤ 15)) →
      exec (.setRoster seq (byteOf o) (byteOf sp) value) s = .next (s.replied (replyTo seq (byteOf o) (.refused .badValue)))) ∧
    (4 ≤ index.toNat →
      exec (.setRoster seq (byteOf o) index value) s = .next (s.replied (replyTo seq (byteOf o) (.refused .badParameter))))

/-- R117: a SET of MISS_LIMIT clamps every miss count at or above the new limit, makes such a node LOST, and offers NODE_LOST for
those that were not, in ascending address order. That it is answered in its own step is the model's reading (logs 2, 3). -/
def Obligations.SetOfMissLimit : Prop :=
  ∀ (seq : Byte) (o : Fin 8) (sp : Fin 4) (index limit : Byte) (value : List Byte) (s : State), Ready s →
    (1 ≤ limit.toNat → limit.toNat ≤ 15 →
      let u := s.span sp
      let clamped (r : NodeRecord) : NodeRecord :=
        if limit.toNat ≤ r.misses then { r with status := .lost, misses := limit.toNat } else r
      let lost := (u.roster.filter fun r => limit.toNat ≤ r.misses ∧ r.status ≠ .lost).map fun r => r.address
      exec (.setMissLimit seq (byteOf o) (byteOf sp) [limit]) s = .next
        ((lost.foldl (fun t a => t.offer sp a 65 0)
          (s.setSpan sp { u with params := { u.params with missLimit := limit.toNat }, roster := u.roster.map clamped })).replied
          (replyTo seq (byteOf o) (.done 0)))) ∧
    ((∀ n : Byte, value = [n] → ¬ (1 ≤ n.toNat ∧ n.toNat ≤ 15)) →
      exec (.setMissLimit seq (byteOf o) (byteOf sp) value) s = .next
        (s.replied (replyTo seq (byteOf o) (.refused .badValue)))) ∧
    (4 ≤ index.toNat →
      exec (.setMissLimit seq (byteOf o) index value) s = .next (s.replied (replyTo seq (byteOf o) (.refused .badParameter))))

/-- R55, R62, R147: a SET of POLL_MS moves the poll timer as R55 gives; a SET of RATE is refused in STARTING, ACTIVE and QUIESCING.
That it is answered in its own step is the model's reading (logs 2, 3). -/
def Obligations.SetOfPollIntervalAndRate : Prop :=
  ∀ (seq : Byte) (o : Fin 8) (sp : Fin 4) (index b1 b0 : Byte) (value : List Byte) (s : State), Ready s →
    let u := s.span sp
    let n := valueNumber [b1, b0]
    let done := replyTo seq (byteOf o) (.done 0)
    let badValue := replyTo seq (byteOf o) (.refused .badValue)
    let badParameter := replyTo seq (byteOf o) (.refused .badParameter)
    let timer : PollTimer :=
      if n = 0 then .stopped else if u.params.pollMs = 0 ∧ u.state.isOpen = true then .running n else u.scheduler.pollTimer
    (n ≤ 1000 →
      exec (.setPollMs seq (byteOf o) (byteOf sp) [b1, b0]) s = .next
        ((s.setSpan sp
          { u with params := { u.params with pollMs := n }, scheduler := { u.scheduler with pollTimer := timer } }).replied done)) ∧
    ((value.length ≠ 2 ∨ 1000 < valueNumber value) →
      exec (.setPollMs seq (byteOf o) (byteOf sp) value) s = .next (s.replied badValue)) ∧
    (4 ≤ index.toNat → exec (.setPollMs seq (byteOf o) index value) s = .next (s.replied badParameter)) ∧
    (∀ rate : Rate, (rate = .r100 ∧ n = 100 ∨ rate = .r250 ∧ n = 250 ∨ rate = .r500 ∧ n = 500 ∨ rate = .r1000 ∧ n = 1000) →
      exec (.setRate seq (byteOf o) (byteOf sp) [b1, b0]) s = .next
        (if u.state = .starting ∨ u.state = .active ∨ u.state = .quiescing then
          s.replied (replyTo seq (byteOf o) (.refused .wrongState))
        else (s.setSpan sp { u with params := { u.params with rate := rate } }).replied done)) ∧
    ((value.length ≠ 2 ∨ valueNumber value ∉ [100, 250, 500, 1000]) →
      exec (.setRate seq (byteOf o) (byteOf sp) value) s = .next (s.replied badValue)) ∧
    (4 ≤ index.toNat → exec (.setRate seq (byteOf o) index value) s = .next (s.replied badParameter))

/-- R135, R136, R137, R138: a SET of ALERT_ENABLE or ALERT_REPORTING re-evaluates ATTN, makes an ALERT due when the summary becomes
true, and takes back a due ALERT when reporting goes OFF. That it is answered in its own step is the model's reading (logs 2, 3). -/
def Obligations.SetOfAlertParameters : Prop :=
  ∀ (seq : Byte) (o : Fin 8) (n : Fin 10) (on : Bool) (index : Byte) (value : List Byte) (s : State),
    Ready s →
    let done := replyTo seq (byteOf o) (.done 0)
    let badValue := replyTo seq (byteOf o) (.refused .badValue)
    let badParameter := replyTo seq (byteOf o) (.refused .badParameter)
    let code : Byte := if on then 1#8 else 0#8
    let enabled : AlertUnit := s.alerts.setCondition n { s.alerts.condition n with enable := on }
    (exec (.setAlertEnable seq (byteOf o) (byteOf n) [code]) s = .next
      ((s.setAlerts
        { enabled with attn := enabled.summary, due := s.alerts.due || (!s.alerts.summary && enabled.summary) }).replied done)) ∧
    (exec (.setAlertReporting seq (byteOf o) 0#8 [code]) s = .next
      ((s.setAlerts
        (if on then
          { s.alerts with
            reporting := true
            attn := (List.finRange 10).any fun m => (s.alerts.condition m).set && (s.alerts.condition m).enable
            due := s.alerts.due ||
              (!s.alerts.reporting && (List.finRange 10).any fun m => (s.alerts.condition m).set && (s.alerts.condition m).enable) }
        else { s.alerts with reporting := false, attn := false, due := false })).replied done)) ∧
    (value ≠ [0#8] → value ≠ [1#8] →
      exec (.setAlertEnable seq (byteOf o) (byteOf n) value) s = .next (s.replied badValue) ∧
      exec (.setAlertReporting seq (byteOf o) 0#8 value) s = .next (s.replied badValue)) ∧
    (10 ≤ index.toNat → exec (.setAlertEnable seq (byteOf o) index value) s = .next (s.replied badParameter)) ∧
    (index ≠ 0#8 → exec (.setAlertReporting seq (byteOf o) index value) s = .next (s.replied badParameter))

/-- R146, R147, Table 9-1: a SET of any other parameter replaces that value alone; a value outside its range or length is refused
BAD_VALUE; an index outside its range, a read-only item and an unknown code are refused BAD_PARAMETER. That it is answered in its
own step is the model's reading (logs 2, 3). -/
def Obligations.SetOfOtherParameters : Prop :=
  ∀ (seq : Byte) (o : Fin 8) (code index : Byte) (value : List Byte) (s : State), Ready s →
    (∀ range : ValueRange, plainParameter code = some range → index.toNat < indexCount code →
      (range.Takes value →
        exec (.set seq (byteOf o) code index value) s = .next
          ((s.withParameter code index (valueNumber value)).replied (replyTo seq (byteOf o) (.done 0)))) ∧
      (¬ range.Takes value →
        exec (.set seq (byteOf o) code index value) s = .next (s.replied (replyTo seq (byteOf o) (.refused .badValue))))) ∧
    (indexCount code ≤ index.toNat ∨ 0x40 ≤ code.toNat →
      exec (.set seq (byteOf o) code index value) s = .next (s.replied (replyTo seq (byteOf o) (.refused .badParameter))))

/-- R143, R149, R153, R179, Tables 9-3, 10-10, 10-12 and 10-13: a GET changes nothing but the Host Link, and answers VALUE with the present value of a
read-only item or parameter, or BAD_PARAMETER. That it is answered in its own step is the model's reading (logs 2, 3). -/
def Obligations.GetReportsTheState : Prop :=
  ∀ (seq : Byte) (o : Fin 8) (code index : Byte) (s : State), Ready s →
    let reports (code index : Byte) (value : List Byte) : Prop :=
      exec (.get seq (byteOf o) code index) s = .next (s.replied (replyTo seq (byteOf o) (.value code index value)))
    let count (p : EntryState → Bool) : Byte := byteOf (s.table.entries.countP fun e => p e.state)
    (indexCount code ≤ index.toNat →
      exec (.get seq (byteOf o) code index) s = .next (s.replied (replyTo seq (byteOf o) (.refused .badParameter)))) ∧
    reports 0x40#8 0#8 [0x1C#8, 0x4A#8, 0x04#8, 0x15#8, 1#8, 4#8, 16#8] ∧
    reports 0x41#8 0#8
      [count (· == .queued), count (· == .running), count (· == .cancelling), count EntryState.isHeld, count EntryState.isDelivered] ∧
    reports 0x42#8 0#8 (bytesOf16 s.table.discardCount) ∧
    reports 0x43#8 0#8 (bytesOf16 s.table.reclaimCount) ∧
    reports 0x4D#8 0#8 [byteOf s.notices.credit] ∧
    reports 0x4E#8 0#8 (bytesOf16 s.notices.lost) ∧
    reports 0x4F#8 0#8 (alertLayout s.alerts) ∧
    reports 0x50#8 0#8 (bytesOf16 s.link.linkErrors) ∧
    reports 0x51#8 0#8 (bytesOf16 s.link.intakeOverruns) ∧
    reports 0x01#8 0#8 (bytesOf16 s.params.discardMs) ∧
    reports 0x02#8 0#8 (bytesOf16 s.params.lingerMs) ∧
    reports 0x04#8 0#8 [byteOf s.params.attempts] ∧
    reports 0x05#8 0#8 [byteOf s.params.postBurst] ∧
    reports 0x10#8 0#8 [match s.router.defaultSpan with | none => 0xFF#8 | some sp => byteOf sp] ∧
    reports 0x11#8 0#8 [if s.alerts.reporting then 1#8 else 0#8] ∧
    (∀ p : Fin 8, reports 0x06#8 (byteOf p) [if s.params.tier[p] = .high then 1#8 else 0#8]) ∧
    (∀ i : Fin 8, reports 0x0F#8 (byteOf i)
      (match s.router.window i with
      | none => [0#8]
      | some w => [1#8] ++ bytesOf16 w.first ++ bytesOf16 w.last ++ [byteOf w.span, byteOf w.base])) ∧
    (∀ n : Fin 10, reports 0x12#8 (byteOf n) [if (s.alerts.condition n).enable then 1#8 else 0#8]) ∧
    ∀ sp : Fin 4,
      let u := s.span sp
      reports 0x03#8 (byteOf sp) [byteOf u.params.quota] ∧
      reports 0x07#8 (byteOf sp)
        (bytesOf16 (match u.params.rate with | .r100 => 100 | .r250 => 250 | .r500 => 500 | .r1000 => 1000)) ∧
      reports 0x08#8 (byteOf sp) [byteOf u.params.responseMs] ∧
      reports 0x09#8 (byteOf sp) [byteOf u.params.backoffMs] ∧
      reports 0x0A#8 (byteOf sp) (bytesOf16 u.params.settleMs) ∧
      reports 0x0B#8 (byteOf sp) [if u.params.closedAnswer = .fail then 1#8 else 0#8] ∧
      reports 0x0C#8 (byteOf sp) (bytesOf16 u.params.pollMs) ∧
      reports 0x0D#8 (byteOf sp) (byteOf u.roster.length :: u.roster.map fun r => byteOf r.address) ∧
      reports 0x0E#8 (byteOf sp) [byteOf u.params.missLimit] ∧
      reports 0x44#8 (byteOf sp) [byteOf u.posts.length] ∧
      reports 0x45#8 (byteOf sp) (bytesOf16 u.postsDiscarded) ∧
      reports 0x46#8 (byteOf sp)
        [match u.state with
          | .off => 0#8 | .starting => 1#8 | .active => 2#8 | .quiescing => 3#8 | .quiesced => 4#8 | .faulted => 5#8] ∧
      reports 0x47#8 (byteOf sp) (bytes32 u.counters.jobsCompleted) ∧
      reports 0x48#8 (byteOf sp) (bytes32 u.counters.attemptsMade) ∧
      reports 0x49#8 (byteOf sp) (bytes32 u.counters.attemptsBusy) ∧
      reports 0x4A#8 (byteOf sp) (bytes32 u.counters.attemptsSilent) ∧
      reports 0x4B#8 (byteOf sp) (bytes32 u.counters.attemptsGarbled) ∧
      reports 0x4C#8 (byteOf sp)
        (byteOf u.roster.length :: u.roster.flatMap fun r =>
          [byteOf r.address, match r.status with | .unseen => 0#8 | .present => 1#8 | .lost => 2#8, byteOf r.misses])

/-- R149, R180: a GET behind an accepted SET of the same parameter answers the very bytes the SET carried; ROSTER apart, whose
addresses come back in ascending order. That it is answered in its own step is the model's reading (logs 2, 3). -/
def Obligations.GetAfterSetReturnsTheValue : Prop :=
  ∀ (seq seq' : Byte) (o o' : Fin 8) (code index : Byte) (value : List Byte) (s t : State),
    Ready s → s.link.replies.length < 7 → code ≠ 0x0D#8 →
    exec (.set seq (byteOf o) code index value) s = .next t →
    (t.link.replies.getLast?.map fun sl => sl.reply) = some (.done 0) →
    exec (.get seq' (byteOf o') code index) t = .next (t.replied (replyTo seq' (byteOf o') (.value code index value)))

/-! ## CLEAR, CREDIT and RESTART -/

/-- R141: a CLEAR clears the conditions whose bit is 1 and no other, re-evaluates ATTN, and leaves enables, reporting and alert-due;
one that names a condition above 9 is refused MALFORMED. That it is answered in its own step is the model's reading (logs 2, 3). -/
def Obligations.ClearClearsTheNamedConditions : Prop :=
  ∀ (seq : Byte) (o : Fin 8) (list : Word16) (s : State), Ready s →
    (list.toNat < 1024 →
      let conditions : Vector Condition 10 :=
        Vector.ofFn fun n => if list.getLsbD n then { s.alerts.condition n with set := false, count := 0, cause := none }
          else s.alerts.condition n
      exec (.clear seq (byteOf o) list) s = .next
        ((s.setAlerts
          { s.alerts with
            conditions := conditions
            attn := s.alerts.reporting && (List.finRange 10).any fun n => conditions[n].set && conditions[n].enable }).replied
          (replyTo seq (byteOf o) (.done 0)))) ∧
    (1024 ≤ list.toNat →
      exec (.clear seq (byteOf o) list) s = .next (s.replied (replyTo seq (byteOf o) (.refused .malformed))))

/-- R126: a CREDIT adds its grant up to 8, or revokes with 0, and answers the credit as it then stands; the entries and the lost
count stay; a grant above 8 is refused MALFORMED. That it is answered in its own step is the model's reading (logs 2, 3). -/
def Obligations.CreditIsGrantedOrRevoked : Prop :=
  ∀ (seq : Byte) (o : Fin 8) (grant : Byte) (s : State), Ready s →
    (grant.toNat ≤ 8 →
      let credit := if grant = 0#8 then 0 else min 8 (s.notices.credit + grant.toNat)
      exec (.credit seq (byteOf o) grant) s = .next
        ((s.setNotices { s.notices with credit := credit }).replied (replyTo seq (byteOf o) (.done credit)))) ∧
    (8 < grant.toNat →
      exec (.credit seq (byteOf o) grant) s = .next (s.replied (replyTo seq (byteOf o) (.refused .malformed))))

/-- R155: a RESTART fills its DONE, makes the relay DRAINING and abandons a frame in reception; every other block goes on as it was.
That it is answered in its own step is the model's reading (logs 2, 3). -/
def Obligations.RestartStartsDraining : Prop :=
  ∀ (seq : Byte) (o : Fin 8) (s : State), Ready s →
    exec (.restart seq (byteOf o)) s = .next
      (((s.setControl { s.control with state := .draining }).setLink { s.link with receiver := .hunting }).replied
        { replyTo seq (byteOf o) (.done 0) with ofRestart := true })

/-! ## The Host Link -/

/-- R163 to R166, R171: the frame of a message, arriving whole in HUNTING, does what the message does; a frame whose body is no
message's, of an unknown kind or with fields that do not fit its kind, is answered REFUSED(MALFORMED). That a frame is offered and taken
in its own step is the model's reading (logs 2, 3); that bytes given in SERVING began after READY's end is its choice (log 12). -/
def Obligations.HostFrameIsItsMessage : Prop :=
  ∀ (c : Instr) (kind seq orig : Byte) (fields : List Byte) (s : State),
    s.control.state = .serving → s.link.receiver = .hunting → fields.length ≤ 93 →
    (messageBody c = some (kind :: seq :: orig :: fields) →
      ∃ t, exec c s = .next t ∧ exec (.hostFrame (frameLayout (kind :: seq :: orig :: fields))) s = .next t) ∧
    (Ready s → (∀ d : Instr, messageBody d ≠ some (kind :: seq :: orig :: fields)) →
      exec (.hostFrame (frameLayout (kind :: seq :: orig :: fields))) s = .next
        (s.replied (replyTo seq orig (.refused .malformed))))

/-- R165, R168: the receiver does with bytes that arrive together what it does with the same bytes one after another. That each
judgement is followed at once by the takes and the choice it allows is the model's reading (log 3); that bytes given in SERVING began
after READY's end is its choice (log 12). -/
def Obligations.BytesTogetherAreBytesOneByOne : Prop :=
  ∀ (b : Byte) (bytes : List Byte) (s : State),
    exec (.hostFrame (b :: bytes)) s =
      bytes.foldl (fun r b => match r with | .next t => exec (.hrxByteReceived b) t | stop => stop) (exec (.hrxByteReceived b) s)

/-- R165: a byte in HUNTING is dropped unless it is the sync byte; a byte in COLLECTING that neither completes the frame nor is a
bad length is held; outside SERVING every byte is ignored. R166, R167: a frame that fails for length, for CRC or by gap is dropped and
counted, raises LINK_ERROR without a field, and leaves the receiver HUNTING. R168: the bytes it held, and those behind them, are then
examined again as bytes from HRX, and after a gap a frame that they leave unfinished fails by gap in its turn. GAP_FAILURE outside
COLLECTING changes nothing (log 9). The transmitter's choice in the same step is the model's reading (log 3); that bytes given in
SERVING began after READY's end is its choice (log 12). -/
def Obligations.BytesAreHeldAndFailedFramesCounted : Prop :=
  ∀ (b l : Byte) (held behind : List Byte) (s : State),
    let failed :=
      ((s.setLink { s.link with receiver := .hunting, linkErrors := min 65535 (s.link.linkErrors + 1) }).raise .linkError .none).choose
    (s.control.state ≠ .serving → exec (.hrxByteReceived b) s = .next s) ∧
    (s.control.state = .serving → s.link.receiver = .hunting →
      exec (.hrxByteReceived b) s = .next
        (if b = 0xA5#8 then s.setLink { s.link with receiver := .collecting [] } else s)) ∧
    (s.control.state = .serving → s.link.receiver = .collecting held →
      (∀ l more, held ++ [b] = l :: more → 3 ≤ l.toNat ∧ l.toNat ≤ 96 ∧ more.length < l.toNat + 2) →
      exec (.hrxByteReceived b) s = .next (s.setLink { s.link with receiver := .collecting (held ++ [b]) })) ∧
    (s.control.state = .serving → s.link.receiver = .collecting held →
      exec (.hrxByteReceived b) s =
        exec (.hostFrame ([0xA5#8] ++ held ++ [b])) (s.setLink { s.link with receiver := .hunting })) ∧
    (QueuesSound s → s.control.state = .serving → s.link.receiver = .hunting → l.toNat < 3 ∨ 96 < l.toNat →
      exec (.hostFrame ([0xA5#8, l] ++ behind)) s = exec (.hostFrame ([l] ++ behind)) failed) ∧
    (QueuesSound s → s.control.state = .serving → s.link.receiver = .hunting → 3 ≤ l.toNat → l.toNat ≤ 96 →
      held.length = l.toNat + 2 → held.drop l.toNat ≠ bytes16 (crc16 (l :: held.take l.toNat)) →
      exec (.hostFrame ([0xA5#8, l] ++ held ++ behind)) s = exec (.hostFrame ([l] ++ held ++ behind)) failed) ∧
    (QueuesSound s → ReceiverSound s → s.control.state = .serving → s.link.receiver = .collecting held →
      (0xA5#8 ∉ held → exec .gapFailure s = .next failed) ∧
      ∃ t, exec (.hostFrame held) failed = .next t ∧ exec .gapFailure s = exec .gapFailure t) ∧
    (s.link.receiver = .hunting → 0xA5#8 ∉ held → exec (.hostFrame held) s = .next s) ∧
    (s.link.receiver = .hunting → exec .gapFailure s = .next s)

/-- R169, R170, R154: while the Reply Queue is full a good frame waits at the tail of the Intake Queue, and with 4 frames waiting it
is dropped, counted and raised with its originator; outside SERVING it is ignored. All 21 message rows. That a frame is offered and
taken in its own step is the model's reading (logs 2, 3). -/
def Obligations.FramesWaitWhileTheReplyQueueIsFull : Prop :=
  ∀ (c : Instr) (kind seq orig : Byte) (fields : List Byte) (source : Source) (bytes : List Byte) (s : State),
    messageBody c = some (kind :: seq :: orig :: fields) →
    (s.control.state = .serving → s.link.replies.length = 8 → s.link.transmitter = .sending source bytes →
      s.link.intake.length < 4 →
      exec c s = .next (s.setLink { s.link with
        intake := s.link.intake ++ [{ kind := kind, sequence := seq, originator := orig, fields }] })) ∧
    (s.control.state = .serving → s.link.replies.length = 8 → s.link.transmitter = .sending source bytes →
      s.link.intake.length = 4 →
      exec c s = .next
        ((s.setLink { s.link with intakeOverruns := min 65535 (s.link.intakeOverruns + 1) }).raise .intakeOverrun
          (if h : orig.toNat < 8 then .originator ⟨orig.toNat, h⟩ else .none))) ∧
    (s.control.state ≠ .serving → exec c s = .next s)

/-- R127, R139, R172, R174, R176, R179, Tables 10-8, 10-10, 10-11 and 10-13: an idle transmitter takes the oldest reply, else in SERVING an
ALERT that is due, else a NOTICE under credit, else nothing; what it sends is laid out as the tables give; an unsolicited message uses
up one number of the counter. -/
def Obligations.TransmitterChoosesInOrder : Prop :=
  ∀ s : State, QueuesSound s →
    s.choose =
      (match s.link.transmitter, s.control.state, s.link.replies with
      | .sending _ _, _, _ => s
      | .idle, .held, _ => s
      | .idle, .announcing, _ => s
      | .idle, .draining, [] => s
      | .idle, .draining, sl :: rest =>
        s.setLink { s.link with replies := { sl with sending := true } :: rest, transmitter := .sending .reply (frameLayout (replyLayout sl)) }
      | .idle, .serving, sl :: rest =>
        s.setLink { s.link with replies := { sl with sending := true } :: rest, transmitter := .sending .reply (frameLayout (replyLayout sl)) }
      | .idle, .serving, [] =>
        if s.alerts.due = true then
          (s.setLink { s.link with
            transmitter := .sending .alert (frameLayout ([0xC2#8, s.link.unsolicited, 0#8] ++ alertLayout s.alerts))
            unsolicited := s.link.unsolicited + 1 }).setAlerts { s.alerts with due := false }
        else
          match s.notices.entries with
          | [] => s
          | n :: rest =>
            if s.notices.credit = 0 then s
            else
              (s.setLink { s.link with
                transmitter := .sending .notice (frameLayout ([0xC1#8, s.link.unsolicited, 0#8, byteOf n.span, byteOf n.node,
                  byteOf n.kind] ++ bytesOf16 n.value ++ [byteOf n.count] ++ bytesOf16 s.notices.lost))
                unsolicited := s.link.unsolicited + 1 }).setNotices
                { entries := rest, credit := s.notices.credit - 1, lost := 0 })

/-- R173, R177, R170, R158: the end of a frame frees a reply's slot, ends an ALERT or NOTICE, or makes the relay SERVING; a waiting
frame takes the freed slot; then the transmitter chooses. With nothing in transmission nothing changes (log 9). The transmitter's
choice in the same step is the model's reading (log 3). That a READY whose last byte has left has begun is read by inference (log 10). -/
def Obligations.FrameEndFreesTheTransmitter : Prop :=
  ∀ (bytes : List Byte) (sl : Slot) (slots : List Slot) (f : Frame) (frames : List Frame) (begun : Bool) (s : State),
    LinkSound s →
    (s.link.transmitter = .idle → exec .txFrameEnd s = .next s) ∧
    (s.link.transmitter = .sending .reply bytes → s.link.replies = sl :: slots → sl.ofRestart = false →
      (s.link.intake = [] →
        exec .txFrameEnd s = .next (s.setLink { s.link with replies := slots, transmitter := .idle }).choose) ∧
      (s.link.intake = f :: frames →
        exec .txFrameEnd s = .next
          ((s.setLink { s.link with replies := slots, transmitter := .idle, intake := frames }).answer f).choose)) ∧
    (s.link.transmitter = .sending .alert bytes ∨ s.link.transmitter = .sending .notice bytes →
      exec .txFrameEnd s = .next (s.setLink { s.link with transmitter := .idle }).choose) ∧
    (s.link.transmitter = .sending (.ready begun) bytes →
      exec .txFrameEnd s = .next
        ((s.setControl { s.control with state := .serving, readyBegun := true }).setLink { s.link with transmitter := .idle }))

/-- R157, R158, R176: at the end of the DONE to a RESTART every block takes its values for RESTART, every parameter and the bit rate are
kept, and READY is taken with cause RESTART and sequence 0. The commands that wait stay (log 1), and the spans' idle measure is true
(log 6): both are the model's. -/
def Obligations.RestartEventResetsEveryBlock : Prop :=
  ∀ (bytes : List Byte) (sl : Slot) (s : State),
    s.link.transmitter = .sending .reply bytes → s.link.replies = [sl] → sl.sending = true → sl.ofRestart = true →
    exec .txFrameEnd s = .next
      { control := { s.control with state := .announcing }
        link :=
          { receiver := .hunting, intake := [], replies := [], unsolicited := 1, linkErrors := 0, intakeOverruns := 0
            bitRate := s.link.bitRate
            transmitter := .sending (.ready true)
              (frameLayout [0xC3#8, 0#8, 0#8, 2#8, 0x1C#8, 0x4A#8, 0x04#8, 0x15#8, 1#8, 4#8, 16#8]) }
        table := { entries := [], discardCount := 0, reclaimCount := 0 }
        router := s.router
        spans := Vector.ofFn fun sp : Fin 4 =>
          { (State.reset.span sp) with
            params := (s.span sp).params
            roster := (s.span sp).roster.map fun r => { r with status := .unseen, misses := 0 } }
        notices := { entries := [], credit := 0, lost := 0 }
        alerts :=
          { conditions := Vector.ofFn fun n : Fin 10 => { s.alerts.condition n with set := false, count := 0, cause := none }
            reporting := s.alerts.reporting, due := false, attn := false }
        params := s.params
        pending := s.pending }

/-! ## Power and reset -/

/-- R159, R160: power-on and RSTn low make the relay HELD with every block at its reset values; power-on also begins the start-up. The
queue, the level of RSTn at power-on, the bit rate before the straps are sampled and the spans' idle measure, true, are the model's
(logs 1, 4, 5, 6). -/
def Obligations.PowerOnAndResetLineHoldTheRelay : Prop :=
  ∀ s : State,
    exec .powerOn s = .next
      { State.reset with
        control := { state := .held, rstnHigh := s.control.rstnHigh, startUp := true, readyBegun := false }
        pending := s.pending } ∧
    exec .rstnLow s = .next
      { State.reset with
        control := { s.control with state := .held, rstnHigh := false }
        link := { State.reset.link with bitRate := s.link.bitRate }
        pending := s.pending }

/-- R160, R158, Table 10-2: the relay leaves HELD when the start-up has ended and RSTn is high: the straps give the bit rate, the state
is ANNOUNCING, and READY is taken with cause POWER_ON until a READY has begun, RESET_LINE after. Events that find RSTn already high, the
start-up already over or no READY in transmission change nothing (log 9). -/
def Obligations.RelayLeavesHeldAnnouncing : Prop :=
  ∀ (p : Straps) (begun : Bool) (bytes : List Byte) (s : State),
    let rate : BitRate :=
      match p.baud1, p.baud0 with
      | false, false => .b115200
      | false, true => .b460800
      | true, false => .b921600
      | true, true => .b3000000
    let cause : Byte := if s.control.readyBegun then 1#8 else 0#8
    let announcing (s : State) : State :=
      (s.setControl { s.control with state := .announcing, rstnHigh := true, startUp := false }).setLink { s.link with
        bitRate := rate
        transmitter := .sending (.ready false)
          (frameLayout [0xC3#8, s.link.unsolicited, 0#8, cause, 0x1C#8, 0x4A#8, 0x04#8, 0x15#8, 1#8, 4#8, 16#8])
        unsolicited := s.link.unsolicited + 1 }
    (s.control.state = .held → s.control.startUp = true →
      exec (.startUpEnd p) s = .next
        (if s.control.rstnHigh then announcing s else s.setControl { s.control with startUp := false })) ∧
    (s.control.startUp = false → exec (.startUpEnd p) s = .next s) ∧
    (s.control.state = .held → s.control.rstnHigh = false →
      exec (.rstnHigh p) s = .next
        (if s.control.startUp then s.setControl { s.control with rstnHigh := true } else announcing s)) ∧
    (s.control.rstnHigh = true → exec (.rstnHigh p) s = .next s) ∧
    (s.link.transmitter = .sending (.ready begun) bytes →
      exec .readyFirstByte s = .next
        ((s.setLink { s.link with transmitter := .sending (.ready true) bytes }).setControl { s.control with readyBegun := true })) ∧
    ((∀ b bytes, s.link.transmitter ≠ .sending (.ready b) bytes) → exec .readyFirstByte s = .next s)

/-! ## Timers -/

/-- R19, R20, R5: a discard expiry frees its HELD entry, counts it and raises COMPLETION_DISCARDED with the entry as first cause; a
linger expiry frees its DELIVERED entry and nothing else; the expiry of a stopped timer has no effect (log 9). The transmitter's
choice in the same step is the model's reading (log 3). -/
def Obligations.TableTimersFreeTheirEntries : Prop :=
  ∀ (k : Key) (e : Entry) (s : State), TableBounded s → TransmitterSound s →
    (e ∈ s.table.entries → e.key = k → e.state.isHeld = true →
      exec (.discardExpiry k) s = .next
        (((s.setTable { s.table with
            entries := s.table.entries.filter fun x => x.key ≠ k
            discardCount := min 65535 (s.table.discardCount + 1) }).raise .completionDiscarded
          (.full e.span e.node k.originator k.unit k.item)).choose)) ∧
    ((∀ x ∈ s.table.entries, x.key = k → x.state.isHeld = false) → exec (.discardExpiry k) s = .next s) ∧
    (e ∈ s.table.entries → e.key = k → e.state.isDelivered = true →
      exec (.lingerExpiry k) s = .next (s.setEntries (s.table.entries.filter fun x => x.key ≠ k))) ∧
    ((∀ x ∈ s.table.entries, x.key = k → x.state.isDelivered = false) → exec (.lingerExpiry k) s = .next s)

/-- R88, R54: the settle timer's expiry makes a STARTING span ACTIVE and brings a decision; a running poll timer's expiry makes it
expired, and brings a decision while the roster is non-empty; a timer that does not run does not expire (log 9). A job's first
attempt on an idle line begins with the decision (log 6). -/
def Obligations.SpanTimersExpire : Prop :=
  ∀ (sp : Fin 4) (s : State),
    let u := s.span sp
    exec (.settleExpiry sp) s = .next
      (if u.state = .starting then (s.setSpan sp { u with state := .active, settle := none }).schedule sp else s) ∧
    exec (.pollTimerExpiry sp) s = .next
      (match u.scheduler.pollTimer with
      | .running _ =>
        let expired := s.setSpan sp { u with scheduler := { u.scheduler with pollTimer := .expired } }
        if u.roster = [] then expired else expired.schedule sp
      | .stopped => s
      | .expired => s)

/-! ## Attempts -/

/-- R61, R63, R64, R65, R68, R71, R73, R95, R181: an attempt sends the command frame of its job with SDEn asserted, then the window opens
and a start bit stops it; a backoff ends in the turnaround. Characters that a node sends while the engine is idle, in turnaround or in
backoff are not collected: with the first of them SDn is no longer idle, and the three-character idle behind them completes a turnaround
or counts toward the next one. A turnaround on an idle line is complete as it begins; that RESPONSE_START and RESPONSE_FRAME_END tell of
such characters is the model's reading (log 6). An event that the phase rules out changes nothing (log 9). -/
def Obligations.AttemptGoesThroughItsPhases : Prop :=
  ∀ (sp : Fin 4) (lineActive : Bool) (chars : List LineChar) (s : State),
    let u := s.span sp
    let active : State := s.setSpan sp { u with idle3 := false }
    let idle : State := s.setSpan sp { u with idle3 := true }
    (u.job = none →
      exec (.turnaroundComplete sp) s = .next s ∧ exec (.backoffExpiry sp) s = .next s ∧
      exec (.commandFrameSent sp lineActive) s = .next s ∧
      exec (.responseStart sp) s = .next active ∧
      (TransmitterSound s →
        exec (.responseFrameEnd sp chars) s = .next idle ∧
        exec (.responseWindowExpiry sp) s = .next s ∧ exec (.responseCharacter37 sp) s = .next s)) ∧
    ∀ j, u.job = some j →
      let body := [byteOf j.node, (match j.operation with | .read => 1#8 | .write => 2#8 | .poll => 3#8), j.item, byteOf j.length] ++ j.data
      let sending : SpanUnit :=
        { u with
          job := some { j with begun := j.begun + 1, phase := .sending (body ++ [crc8 body]) }
          counters := { u.counters with attemptsMade := u.counters.attemptsMade + 1 }
          sde := true, idle3 := false, measure := .heldAtZero }
      let phase (p : Phase) : SpanUnit := { u with job := some { j with phase := p } }
      exec (.turnaroundComplete sp) s = .next (match j.phase with | .turnaround _ => s.setSpan sp sending | _ => s) ∧
      exec (.backoffExpiry sp) s = .next
        (match j.phase with
        | .backoff _ => s.setSpan sp (if u.idle3 then sending else phase (.turnaround u.params.responseMs))
        | _ => s) ∧
      exec (.commandFrameSent sp lineActive) s = .next
        (match j.phase with
        | .sending _ =>
          s.setSpan sp { phase (if lineActive then .receiving else .window u.params.responseMs) with sde := false, measure := .running }
        | _ => s) ∧
      exec (.responseStart sp) s = .next
        (match j.phase with
        | .window _ => s.setSpan sp (phase .receiving)
        | .turnaround _ => active
        | .backoff _ => active
        | .sending _ => s
        | .receiving => s) ∧
      (TransmitterSound s → j.phase ≠ .receiving →
        exec (.responseFrameEnd sp chars) s = .next
          (match j.phase with
          | .turnaround _ => s.setSpan sp sending
          | .backoff _ => idle
          | _ => s) ∧
        exec (.responseCharacter37 sp) s = .next s) ∧
      (TransmitterSound s → (∀ ms, j.phase ≠ .window ms) → exec (.responseWindowExpiry sp) s = .next s)

/-- R69, Table 4-3: a response without framing errors is taken for the answer it spells exactly when its check, its node address and its
shape are right; a READ answer whose check alone failed keeps its data; every other response is GARBLED with nothing. -/
def Obligations.ResponsesAreJudged : Prop :=
  ∀ (j : Job) (chars : List LineChar) (body : List Byte) (check : Byte),
    let spell (bytes : List Byte) : List LineChar := bytes.map fun b => { value := b, framingError := false }
    let node := byteOf j.node
    let good (body : List Byte) := j.judge (spell (body ++ [crc8 body]))
    (∀ d : List Byte, j.operation = .read → d.length = j.length → d.length ≤ 32 → good (node :: 1#8 :: d) = .done d) ∧
    (j.operation ≠ .read → good [node, 1#8] = .done []) ∧
    good [node, 2#8] = .busy ∧
    (∀ c : Byte, c ≠ 0#8 → good [node, 3#8, c] = .refused c) ∧
    (∀ kind h l : Byte, j.operation = .poll → 1 ≤ kind.toNat → kind.toNat ≤ 63 →
      good [node, 4#8, kind, h, l] = .notice kind (h.toNat * 256 + l.toNat)) ∧
    (j.operation = .poll → good [node, 5#8] = .nothing) ∧
    ((∀ d, j.judge chars ≠ .garbled d) →
      ∃ answer middle, chars = spell (node :: answer :: middle ++ [crc8 (node :: answer :: middle)]) ∧
        ((answer = 1#8 ∧ (if j.operation = .read then middle.length = j.length else middle = [])) ∨ (answer = 2#8 ∧ middle = []) ∨
          (∃ c, answer = 3#8 ∧ middle = [c] ∧ c ≠ 0#8) ∨
          (∃ kind h l : Byte, j.operation = .poll ∧ answer = 4#8 ∧ middle = [kind, h, l] ∧ 1 ≤ kind.toNat ∧ kind.toNat ≤ 63) ∨
          (j.operation = .poll ∧ answer = 5#8 ∧ middle = []))) ∧
    (∀ (first : Byte) (d : List Byte), j.operation = .read → body = first :: 1#8 :: d → d.length = j.length → d.length ≤ 32 →
      check ≠ crc8 body → j.judge (spell (body ++ [check])) = .garbled (some d)) ∧
    (∀ d, j.judge chars = .garbled (some d) →
      j.operation = .read ∧ ∃ first check, chars = spell (first :: 1#8 :: d ++ [check]) ∧ d.length = j.length ∧
        check ≠ crc8 (first :: 1#8 :: d))

/-- R73, R74, R82: an attempt of a deferred or post job that ends BUSY, SILENT or GARBLED below the attempt limit is counted and tried
again, after a backoff or after a turnaround. On an idle line the turnaround is complete as it begins (log 6). -/
def Obligations.AttemptIsTriedAgain : Prop :=
  ∀ (c : Instr) (sp : Fin 4) (j : Job) (r : AttemptResult) (idle : Bool) (s : State),
    (s.span sp).job = some j → EndsAttempt c sp j r idle → j.kind ≠ .poll → ¬ EndsJob j r → TransmitterSound s →
    let u := (s.span sp).counted j r idle
    let kept : Job := { j with lastResult := some r }
    exec c s = .next (s.setSpan sp
      (match r, idle with
      | .busy, _ => { u with job := some { kept with phase := .backoff u.params.backoffMs } }
      | _, true =>
        { u with
          job := some { kept with begun := j.begun + 1, phase := .sending j.commandFrame }
          counters := { u.counters with attemptsMade := u.counters.attemptsMade + 1 }
          sde := true, idle3 := false, measure := .heldAtZero }
      | _, false => { u with job := some { kept with phase := .turnaround u.params.responseMs } }))

/-- R17, R18, R72, R75, R77: a deferred job's outcome makes its RUNNING entry HELD with its record and frees a CANCELLING one; an
answer is reported to the roster; the engine is free and decides. The transmitter's choice in the same step is the model's reading
(log 3). A job's first attempt on an idle line begins with the decision (log 6). -/
def Obligations.DeferredJobHandsOverItsOutcome : Prop :=
  ∀ (c : Instr) (sp : Fin 4) (j : Job) (r : AttemptResult) (idle : Bool) (s : State),
    (s.span sp).job = some j → EndsAttempt c sp j r idle → j.kind = .deferred → EndsJob j r →
    let record := recordOf j r
    let recorded := (s.setSpan sp ((s.span sp).counted j r idle)).setEntries
      (s.table.entries.filterMap fun e =>
        if e.span = sp ∧ e.state = .running then some { e with state := .held record s.params.discardMs }
        else if e.span = sp ∧ e.state = .cancelling then none
        else some e)
    exec c s = .next ((if record.outcome = .noResponse then recorded else recorded.answered sp j.node).afterJob sp).choose

/-- R38, R39, R40, R77, Table 2-3: a post job's outcome removes the head post, lowers every nonzero barrier of the span, raises the
condition of a failure with the post as first cause, and reports an answer to the roster; the engine is free and decides. The
transmitter's choice in the same step is the model's reading (log 3). A job's first attempt on an idle line begins with the decision
(log 6). -/
def Obligations.PostJobHandsOverItsOutcome : Prop :=
  ∀ (c : Instr) (sp : Fin 4) (j : Job) (r : AttemptResult) (idle : Bool) (p : Post) (posts : List Post) (s : State),
    (s.span sp).job = some j → EndsAttempt c sp j r idle → j.kind = .post → j.operation = .write → EndsJob j r →
    (s.span sp).posts = p :: posts →
    let removed := (s.setSpan sp { (s.span sp).counted j r idle with posts := posts }).setEntries
      (s.table.entries.map fun e => if e.span = sp then { e with barrier := e.barrier - 1 } else e)
    let cause : FirstCause := .full sp p.node p.originator p.unit p.item
    let raised :=
      match (recordOf j r).outcome with
      | .nodeRefused => removed.raise .postRefused cause
      | .noResponse => removed.raise .postNoResponse cause
      | .busyExhausted => removed.raise .postBusyExhausted cause
      | .checkFailed => removed.raise .postCheckFailed cause
      | _ => removed
    exec c s = .next ((if (recordOf j r).outcome = .noResponse then raised else raised.answered sp j.node).afterJob sp).choose

/-- R76, R77, R115, R118: a poll's outcome reaches the roster: SILENT and GARBLED as a miss, any answer as an answer, and a NOTICE
of a roster node is offered after it; the engine is free and decides. The transmitter's choice in the same step is the model's
reading (log 3). A job's first attempt on an idle line begins with the decision (log 6). -/
def Obligations.PollJobHandsOverItsOutcome : Prop :=
  ∀ (c : Instr) (sp : Fin 4) (j : Job) (r : AttemptResult) (idle : Bool) (s : State),
    (s.span sp).job = some j → EndsAttempt c sp j r idle → j.kind = .poll →
    let counted := s.setSpan sp ((s.span sp).counted j r idle)
    let reported :=
      match r with
      | .silent => counted.missed sp j.node
      | .garbled _ => counted.missed sp j.node
      | .notice kind value =>
        if ∃ x ∈ (s.span sp).roster, x.address = j.node then (counted.answered sp j.node).offer sp j.node kind.toNat value
        else counted
      | _ => counted.answered sp j.node
    exec c s = .next (reported.afterJob sp).choose

/-- R115, R116, R118: an answer makes a roster node PRESENT with 0 misses and offers NODE_FOUND unless it was PRESENT; a miss raises the
count of a node that is not LOST, and at the limit makes it LOST and offers NODE_LOST; a report about another address is dropped. -/
def Obligations.RosterTakesReports : Prop :=
  ∀ (sp : Fin 4) (address : Nat) (s : State), RosterSound s →
    let u := s.span sp
    let withRecord (r : NodeRecord) : State :=
      s.setSpan sp { u with roster := u.roster.map fun x => if x.address = address then r else x }
    ((∀ r ∈ u.roster, r.address ≠ address) → s.answered sp address = s ∧ s.missed sp address = s) ∧
    ∀ r ∈ u.roster, r.address = address →
      s.answered sp address =
        (let present := withRecord { r with status := .present, misses := 0 }
         if r.status = .present then present else present.offer sp address 64 0) ∧
      s.missed sp address =
        (if r.status = .lost then s
         else if r.misses + 1 < u.params.missLimit then withRecord { r with misses := r.misses + 1 }
         else (withRecord { r with status := .lost, misses := u.params.missLimit }).offer sp address 65 0)

/-- R95, R96, R97, R27, R41, R79: a line fault of an open span aborts its job, discards its posts, makes its entries HELD with
LINE_FAULT, resets its roster, stops its timers and raises LINE_FAULT with the span alone; on a closed span no fault is declared
(log 9). That SDn is then not idle is the model's (log 6), and so is it that a fault is taken while the engine is SENDING (log 11). The
transmitter's choice in the same step is the model's reading (log 3). -/
def Obligations.LineFaultTakesTheSpanOutOfService : Prop :=
  ∀ (sp : Fin 4) (s : State), SubjectsSound s → TransmitterSound s →
    let u := s.span sp
    let begun := match u.job with | some j => j.begun | none => 0
    let faulted : SpanUnit :=
      { u with
        state := .faulted, srst := true, sde := false, settle := none, measure := .stopped, idle3 := false, job := none, posts := []
        postsDiscarded := min 65535 (u.postsDiscarded + u.posts.length)
        roster := u.roster.map fun r => { r with status := .unseen, misses := 0 }
        scheduler := { u.scheduler with pollTimer := .stopped } }
    let cleanedUp := (s.setSpan sp faulted).setEntries (cleaned sp .lineFault begun s.params.discardMs s.table.entries)
    let discarded :=
      match u.posts with
      | [] => cleanedUp
      | p :: _ => cleanedUp.raise .postDiscarded (.full sp p.node p.originator p.unit p.item)
    (u.state.isOpen = true → exec (.lineFault sp) s = .next (discarded.raise .lineFault (.span sp)).choose) ∧
    (u.state.isOpen = false → exec (.lineFault sp) s = .next s)

/-! ## The scheduler -/

/-- R49, R50, Table 3-2: a decision is made in ACTIVE with the engine free, and starts the job of the first step whose condition
holds, with the counts and pointers moved as R50 and R53 give. A job's first attempt on an idle line begins with the decision (log
6). -/
def Obligations.SchedulerTakesTheFirstStep : Prop :=
  ∀ (sp : Fin 4) (s : State),
    let u := s.span sp
    let waiting : Bool := s.table.entries.any fun e => e.state == .queued && e.barrier == 0 && e.span == sp
    let due : Bool := u.scheduler.pollTimer == .expired && !u.roster.isEmpty && u.params.pollMs != 0
    let passed := if due then u.scheduler.passOver + 1 else u.scheduler.passOver
    (u.state ≠ .active ∨ u.job ≠ none → s.schedule sp = s) ∧
    (u.state = .active → u.job = none →
      (due = true → u.scheduler.passOver = 2 → s.schedule sp = s.setSpan sp u.startPoll) ∧
      (¬ (due = true ∧ u.scheduler.passOver = 2) →
        (∀ p rest, u.posts = p :: rest → u.scheduler.runCount < s.params.postBurst ∨ waiting = false →
          s.schedule sp = s.setSpan sp
            ({ u with
              posts := { p with inProgress := true } :: rest
              scheduler := { u.scheduler with runCount := min 16 (u.scheduler.runCount + 1), passOver := passed } }.enterTurnaround
              (newJob .post p.node .write p.item p.length p.data s.params.attempts))) ∧
        (u.posts = [] ∨ (s.params.postBurst ≤ u.scheduler.runCount ∧ waiting = true) →
          (waiting = true → TableBounded s →
            ∃ o high low e before after,
              arbitrate s.params.tier (candidate s.table.entries sp) u.scheduler.high u.scheduler.low = some (o, high, low) ∧
              s.table.entries = before ++ e :: after ∧ e.state = .queued ∧ e.barrier = 0 ∧ e.span = sp ∧ e.key.originator = o ∧
              (∀ x ∈ before, ¬ (x.state = .queued ∧ x.barrier = 0 ∧ x.span = sp ∧ x.key.originator = o)) ∧
              s.schedule sp = (s.setEntries (before ++ { e with state := .running } :: after)).setSpan sp
                ({ u with
                  scheduler := { u.scheduler with runCount := 0, passOver := passed, high := high, low := low } }.enterTurnaround
                  (newJob .deferred e.node (onSpan e.key.operation) e.key.item e.key.length e.key.data s.params.attempts))) ∧
          (waiting = false → s.schedule sp = if due then s.setSpan sp u.startPoll else s))))

/-- R52, R53: the arbiter chooses the first match of the high ring after its pointer, a HIGH candidate or L; at L the first LOW candidate
of the low ring after its pointer; and the pointers move to what was chosen. It chooses whenever there is a candidate. -/
def Obligations.ArbiterSearchesTheRings : Prop :=
  ∀ (tier : Vector Tier 8) (cand : Fin 8 → Bool) (high : Fin 9) (low : Fin 8),
    let highDistance (p : Nat) : Nat := (p + 8 - high) % 9
    let lowDistance (p : Nat) : Nat := (p + 7 - low) % 8
    ((∃ o, cand o = true) → ∃ r, arbitrate tier cand high low = some r) ∧
    ∀ o high' low', arbitrate tier cand high low = some (o, high', low') →
      cand o = true ∧
      ((tier[o] = .high ∧ high'.val = o.val ∧ low' = low ∧
          (∀ p : Fin 8, highDistance p < highDistance o → ¬ (cand p = true ∧ tier[p] = .high)) ∧
          (highDistance 8 < highDistance o → ∀ p : Fin 8, ¬ (cand p = true ∧ tier[p] = .low))) ∨
        (tier[o] = .low ∧ high' = 8 ∧ low' = o ∧
          (∀ p : Fin 8, highDistance p < highDistance 8 → ¬ (cand p = true ∧ tier[p] = .high)) ∧
          ∀ p : Fin 8, lowDistance p < lowDistance o → ¬ (cand p = true ∧ tier[p] = .low)))

/-- R54, R114, R76: a poll goes to the smallest roster address above the poll position, else to the smallest; the position moves there,
the poll timer restarts, the pass-over count is 0, and the job is one attempt of a POLL to that node. -/
def Obligations.PollGoesRoundTheRoster : Prop :=
  ∀ u : SpanUnit, u.RosterSound → u.roster ≠ [] →
    let v := u.startPoll
    (∃ r ∈ u.roster, r.address = v.pollPosition) ∧
    ((∃ r ∈ u.roster, u.pollPosition < r.address) →
      u.pollPosition < v.pollPosition ∧ ∀ r ∈ u.roster, u.pollPosition < r.address → v.pollPosition ≤ r.address) ∧
    ((∀ r ∈ u.roster, r.address ≤ u.pollPosition) → ∀ r ∈ u.roster, v.pollPosition ≤ r.address) ∧
    v.scheduler = { u.scheduler with pollTimer := .running u.params.pollMs, passOver := 0 } ∧
    v.roster = u.roster ∧ v.posts = u.posts ∧ v.params = u.params ∧ v.state = u.state ∧
    ∃ j, v.job = some j ∧ j.kind = .poll ∧ j.operation = .poll ∧ j.node = v.pollPosition ∧ j.item = 0#8 ∧ j.length = 0 ∧ j.data = [] ∧
      j.limit = 1

/-! ## Router, Notice Queue and Alert Unit -/

/-- R102, R103: a unit in a window resolves to the window's span and its place in it; any other to the default span and its remainder by
16, or to NO_ROUTE. -/
def Obligations.UnitsResolve : Prop :=
  ∀ (r : Router) (u : Nat), RoutesSound r → u ≤ 4095 →
    (∀ i w, r.window i = some w → w.first ≤ u → u ≤ w.last →
      r.resolve u = some (w.span, w.base + (u - w.first)) ∧
      w.base ≤ w.base + (u - w.first) ∧ w.base + (u - w.first) ≤ w.base + (w.last - w.first) ∧
      1 ≤ w.base + (u - w.first) ∧ w.base + (u - w.first) ≤ 15) ∧
    ((∀ i w, r.window i = some w → ¬ (w.first ≤ u ∧ u ≤ w.last)) →
      (r.defaultSpan = none → r.resolve u = none) ∧
      ∀ sp, r.defaultSpan = some sp → r.resolve u = if u % 16 = 0 then none else some (sp, u % 16))

/-- R122: an offer is folded into the entry of its span, node and kind, which keeps its place; else it joins at the tail; else it is
dropped, counted, and raises NOTICE_OVERFLOW with its span and node. -/
def Obligations.OffersCoalesceJoinOrOverflow : Prop :=
  ∀ (span : Fin 4) (node kind value : Nat) (s : State),
    s.notices.entries.Pairwise (fun a b => ¬ (a.span = b.span ∧ a.node = b.node ∧ a.kind = b.kind)) →
    (∀ before n after, s.notices.entries = before ++ n :: after → n.span = span → n.node = node → n.kind = kind →
      s.offer span node kind value = s.setNotices { s.notices with
        entries := before ++ { n with value := value, count := min 255 (n.count + 1) } :: after }) ∧
    ((∀ n ∈ s.notices.entries, ¬ (n.span = span ∧ n.node = node ∧ n.kind = kind)) →
      (s.notices.entries.length < 24 →
        s.offer span node kind value = s.setNotices { s.notices with
          entries := s.notices.entries ++ [{ span, node, kind, value, count := 1 }] }) ∧
      (s.notices.entries.length = 24 →
        s.offer span node kind value =
          (s.setNotices { s.notices with lost := min 65535 (s.notices.lost + 1) }).raise .noticeOverflow (.spanNode span node)))

/-- R132, R136, R137: a raise sets a clear condition with count 1 and its first cause, or raises the count of a set one and keeps its
cause; ATTN follows; alert-due is set when an enabled condition becomes set while reporting is ON. -/
def Obligations.RaisesAreRecorded : Prop :=
  ∀ (n : AlertCondition) (cause : FirstCause) (s : State), AlertsSound s →
    let c := s.alerts.condition n.number
    let raised : Condition :=
      if c.set then { c with count := min 255 (c.count + 1) } else { c with set := true, count := 1, cause := some cause }
    s.raise n cause = s.setAlerts
      { s.alerts with
        conditions := s.alerts.conditions.set n.number raised
        attn := s.alerts.attn || (s.alerts.reporting && c.enable)
        due := s.alerts.due || (s.alerts.reporting && c.enable && !c.set) }
end

