-- ==== Sys2Proof/Laws/State.lean ====
section
/-! SUPPORT. One lemma per field per update of the state, true by rfl, and the laws of reading and replacing a Span Unit, a condition
and a block twice. Cite these; do not unfold a record update. -/

namespace Sys2Proof.Machine

set_option Elab.async false -- one proof after another: the threads of many at once would fill the memory

/-! ## State.setControl -/

@[simp] theorem State.setControl_control (s : State) (x : RelayControl) : (s.setControl x).control = x := rfl
@[simp] theorem State.setControl_link (s : State) (x : RelayControl) : (s.setControl x).link = s.link := rfl
@[simp] theorem State.setControl_table (s : State) (x : RelayControl) : (s.setControl x).table = s.table := rfl
@[simp] theorem State.setControl_router (s : State) (x : RelayControl) : (s.setControl x).router = s.router := rfl
@[simp] theorem State.setControl_spans (s : State) (x : RelayControl) : (s.setControl x).spans = s.spans := rfl
@[simp] theorem State.setControl_notices (s : State) (x : RelayControl) : (s.setControl x).notices = s.notices := rfl
@[simp] theorem State.setControl_alerts (s : State) (x : RelayControl) : (s.setControl x).alerts = s.alerts := rfl
@[simp] theorem State.setControl_params (s : State) (x : RelayControl) : (s.setControl x).params = s.params := rfl
@[simp] theorem State.setControl_pending (s : State) (x : RelayControl) : (s.setControl x).pending = s.pending := rfl
@[simp] theorem State.setControl_span (s : State) (x : RelayControl) (sp : Fin 4) : (s.setControl x).span sp = s.span sp := rfl
@[simp] theorem State.setControl_setControl (s : State) (x y : RelayControl) : (s.setControl x).setControl y = s.setControl y := rfl
@[simp] theorem State.setControl_self (s : State) : s.setControl s.control = s := rfl

/-! ## State.setLink -/

@[simp] theorem State.setLink_control (s : State) (x : LinkInterface) : (s.setLink x).control = s.control := rfl
@[simp] theorem State.setLink_link (s : State) (x : LinkInterface) : (s.setLink x).link = x := rfl
@[simp] theorem State.setLink_table (s : State) (x : LinkInterface) : (s.setLink x).table = s.table := rfl
@[simp] theorem State.setLink_router (s : State) (x : LinkInterface) : (s.setLink x).router = s.router := rfl
@[simp] theorem State.setLink_spans (s : State) (x : LinkInterface) : (s.setLink x).spans = s.spans := rfl
@[simp] theorem State.setLink_notices (s : State) (x : LinkInterface) : (s.setLink x).notices = s.notices := rfl
@[simp] theorem State.setLink_alerts (s : State) (x : LinkInterface) : (s.setLink x).alerts = s.alerts := rfl
@[simp] theorem State.setLink_params (s : State) (x : LinkInterface) : (s.setLink x).params = s.params := rfl
@[simp] theorem State.setLink_pending (s : State) (x : LinkInterface) : (s.setLink x).pending = s.pending := rfl
@[simp] theorem State.setLink_span (s : State) (x : LinkInterface) (sp : Fin 4) : (s.setLink x).span sp = s.span sp := rfl
@[simp] theorem State.setLink_setLink (s : State) (x y : LinkInterface) : (s.setLink x).setLink y = s.setLink y := rfl
@[simp] theorem State.setLink_self (s : State) : s.setLink s.link = s := rfl

/-! ## State.setTable -/

@[simp] theorem State.setTable_control (s : State) (x : TransactionTable) : (s.setTable x).control = s.control := rfl
@[simp] theorem State.setTable_link (s : State) (x : TransactionTable) : (s.setTable x).link = s.link := rfl
@[simp] theorem State.setTable_table (s : State) (x : TransactionTable) : (s.setTable x).table = x := rfl
@[simp] theorem State.setTable_router (s : State) (x : TransactionTable) : (s.setTable x).router = s.router := rfl
@[simp] theorem State.setTable_spans (s : State) (x : TransactionTable) : (s.setTable x).spans = s.spans := rfl
@[simp] theorem State.setTable_notices (s : State) (x : TransactionTable) : (s.setTable x).notices = s.notices := rfl
@[simp] theorem State.setTable_alerts (s : State) (x : TransactionTable) : (s.setTable x).alerts = s.alerts := rfl
@[simp] theorem State.setTable_params (s : State) (x : TransactionTable) : (s.setTable x).params = s.params := rfl
@[simp] theorem State.setTable_pending (s : State) (x : TransactionTable) : (s.setTable x).pending = s.pending := rfl
@[simp] theorem State.setTable_span (s : State) (x : TransactionTable) (sp : Fin 4) : (s.setTable x).span sp = s.span sp := rfl
@[simp] theorem State.setTable_setTable (s : State) (x y : TransactionTable) : (s.setTable x).setTable y = s.setTable y := rfl
@[simp] theorem State.setTable_self (s : State) : s.setTable s.table = s := rfl

/-! ## State.setRouter -/

@[simp] theorem State.setRouter_control (s : State) (x : Router) : (s.setRouter x).control = s.control := rfl
@[simp] theorem State.setRouter_link (s : State) (x : Router) : (s.setRouter x).link = s.link := rfl
@[simp] theorem State.setRouter_table (s : State) (x : Router) : (s.setRouter x).table = s.table := rfl
@[simp] theorem State.setRouter_router (s : State) (x : Router) : (s.setRouter x).router = x := rfl
@[simp] theorem State.setRouter_spans (s : State) (x : Router) : (s.setRouter x).spans = s.spans := rfl
@[simp] theorem State.setRouter_notices (s : State) (x : Router) : (s.setRouter x).notices = s.notices := rfl
@[simp] theorem State.setRouter_alerts (s : State) (x : Router) : (s.setRouter x).alerts = s.alerts := rfl
@[simp] theorem State.setRouter_params (s : State) (x : Router) : (s.setRouter x).params = s.params := rfl
@[simp] theorem State.setRouter_pending (s : State) (x : Router) : (s.setRouter x).pending = s.pending := rfl
@[simp] theorem State.setRouter_span (s : State) (x : Router) (sp : Fin 4) : (s.setRouter x).span sp = s.span sp := rfl
@[simp] theorem State.setRouter_setRouter (s : State) (x y : Router) : (s.setRouter x).setRouter y = s.setRouter y := rfl
@[simp] theorem State.setRouter_self (s : State) : s.setRouter s.router = s := rfl

/-! ## State.setSpans -/

@[simp] theorem State.setSpans_control (s : State) (x : Vector SpanUnit 4) : (s.setSpans x).control = s.control := rfl
@[simp] theorem State.setSpans_link (s : State) (x : Vector SpanUnit 4) : (s.setSpans x).link = s.link := rfl
@[simp] theorem State.setSpans_table (s : State) (x : Vector SpanUnit 4) : (s.setSpans x).table = s.table := rfl
@[simp] theorem State.setSpans_router (s : State) (x : Vector SpanUnit 4) : (s.setSpans x).router = s.router := rfl
@[simp] theorem State.setSpans_spans (s : State) (x : Vector SpanUnit 4) : (s.setSpans x).spans = x := rfl
@[simp] theorem State.setSpans_notices (s : State) (x : Vector SpanUnit 4) : (s.setSpans x).notices = s.notices := rfl
@[simp] theorem State.setSpans_alerts (s : State) (x : Vector SpanUnit 4) : (s.setSpans x).alerts = s.alerts := rfl
@[simp] theorem State.setSpans_params (s : State) (x : Vector SpanUnit 4) : (s.setSpans x).params = s.params := rfl
@[simp] theorem State.setSpans_pending (s : State) (x : Vector SpanUnit 4) : (s.setSpans x).pending = s.pending := rfl
@[simp] theorem State.setSpans_setSpans (s : State) (x y : Vector SpanUnit 4) : (s.setSpans x).setSpans y = s.setSpans y := rfl
@[simp] theorem State.setSpans_self (s : State) : s.setSpans s.spans = s := rfl

/-! ## State.setNotices -/

@[simp] theorem State.setNotices_control (s : State) (x : NoticeQueue) : (s.setNotices x).control = s.control := rfl
@[simp] theorem State.setNotices_link (s : State) (x : NoticeQueue) : (s.setNotices x).link = s.link := rfl
@[simp] theorem State.setNotices_table (s : State) (x : NoticeQueue) : (s.setNotices x).table = s.table := rfl
@[simp] theorem State.setNotices_router (s : State) (x : NoticeQueue) : (s.setNotices x).router = s.router := rfl
@[simp] theorem State.setNotices_spans (s : State) (x : NoticeQueue) : (s.setNotices x).spans = s.spans := rfl
@[simp] theorem State.setNotices_notices (s : State) (x : NoticeQueue) : (s.setNotices x).notices = x := rfl
@[simp] theorem State.setNotices_alerts (s : State) (x : NoticeQueue) : (s.setNotices x).alerts = s.alerts := rfl
@[simp] theorem State.setNotices_params (s : State) (x : NoticeQueue) : (s.setNotices x).params = s.params := rfl
@[simp] theorem State.setNotices_pending (s : State) (x : NoticeQueue) : (s.setNotices x).pending = s.pending := rfl
@[simp] theorem State.setNotices_span (s : State) (x : NoticeQueue) (sp : Fin 4) : (s.setNotices x).span sp = s.span sp := rfl
@[simp] theorem State.setNotices_setNotices (s : State) (x y : NoticeQueue) : (s.setNotices x).setNotices y = s.setNotices y := rfl
@[simp] theorem State.setNotices_self (s : State) : s.setNotices s.notices = s := rfl

/-! ## State.setAlerts -/

@[simp] theorem State.setAlerts_control (s : State) (x : AlertUnit) : (s.setAlerts x).control = s.control := rfl
@[simp] theorem State.setAlerts_link (s : State) (x : AlertUnit) : (s.setAlerts x).link = s.link := rfl
@[simp] theorem State.setAlerts_table (s : State) (x : AlertUnit) : (s.setAlerts x).table = s.table := rfl
@[simp] theorem State.setAlerts_router (s : State) (x : AlertUnit) : (s.setAlerts x).router = s.router := rfl
@[simp] theorem State.setAlerts_spans (s : State) (x : AlertUnit) : (s.setAlerts x).spans = s.spans := rfl
@[simp] theorem State.setAlerts_notices (s : State) (x : AlertUnit) : (s.setAlerts x).notices = s.notices := rfl
@[simp] theorem State.setAlerts_alerts (s : State) (x : AlertUnit) : (s.setAlerts x).alerts = x := rfl
@[simp] theorem State.setAlerts_params (s : State) (x : AlertUnit) : (s.setAlerts x).params = s.params := rfl
@[simp] theorem State.setAlerts_pending (s : State) (x : AlertUnit) : (s.setAlerts x).pending = s.pending := rfl
@[simp] theorem State.setAlerts_span (s : State) (x : AlertUnit) (sp : Fin 4) : (s.setAlerts x).span sp = s.span sp := rfl
@[simp] theorem State.setAlerts_setAlerts (s : State) (x y : AlertUnit) : (s.setAlerts x).setAlerts y = s.setAlerts y := rfl
@[simp] theorem State.setAlerts_self (s : State) : s.setAlerts s.alerts = s := rfl

/-! ## State.setParams -/

@[simp] theorem State.setParams_control (s : State) (x : ParameterStore) : (s.setParams x).control = s.control := rfl
@[simp] theorem State.setParams_link (s : State) (x : ParameterStore) : (s.setParams x).link = s.link := rfl
@[simp] theorem State.setParams_table (s : State) (x : ParameterStore) : (s.setParams x).table = s.table := rfl
@[simp] theorem State.setParams_router (s : State) (x : ParameterStore) : (s.setParams x).router = s.router := rfl
@[simp] theorem State.setParams_spans (s : State) (x : ParameterStore) : (s.setParams x).spans = s.spans := rfl
@[simp] theorem State.setParams_notices (s : State) (x : ParameterStore) : (s.setParams x).notices = s.notices := rfl
@[simp] theorem State.setParams_alerts (s : State) (x : ParameterStore) : (s.setParams x).alerts = s.alerts := rfl
@[simp] theorem State.setParams_params (s : State) (x : ParameterStore) : (s.setParams x).params = x := rfl
@[simp] theorem State.setParams_pending (s : State) (x : ParameterStore) : (s.setParams x).pending = s.pending := rfl
@[simp] theorem State.setParams_span (s : State) (x : ParameterStore) (sp : Fin 4) : (s.setParams x).span sp = s.span sp := rfl
@[simp] theorem State.setParams_setParams (s : State) (x y : ParameterStore) : (s.setParams x).setParams y = s.setParams y := rfl
@[simp] theorem State.setParams_self (s : State) : s.setParams s.params = s := rfl

/-! ## State.setPending -/

@[simp] theorem State.setPending_control (s : State) (x : List Instr) : (s.setPending x).control = s.control := rfl
@[simp] theorem State.setPending_link (s : State) (x : List Instr) : (s.setPending x).link = s.link := rfl
@[simp] theorem State.setPending_table (s : State) (x : List Instr) : (s.setPending x).table = s.table := rfl
@[simp] theorem State.setPending_router (s : State) (x : List Instr) : (s.setPending x).router = s.router := rfl
@[simp] theorem State.setPending_spans (s : State) (x : List Instr) : (s.setPending x).spans = s.spans := rfl
@[simp] theorem State.setPending_notices (s : State) (x : List Instr) : (s.setPending x).notices = s.notices := rfl
@[simp] theorem State.setPending_alerts (s : State) (x : List Instr) : (s.setPending x).alerts = s.alerts := rfl
@[simp] theorem State.setPending_params (s : State) (x : List Instr) : (s.setPending x).params = s.params := rfl
@[simp] theorem State.setPending_pending (s : State) (x : List Instr) : (s.setPending x).pending = x := rfl
@[simp] theorem State.setPending_span (s : State) (x : List Instr) (sp : Fin 4) : (s.setPending x).span sp = s.span sp := rfl
@[simp] theorem State.setPending_setPending (s : State) (x y : List Instr) : (s.setPending x).setPending y = s.setPending y := rfl
@[simp] theorem State.setPending_self (s : State) : s.setPending s.pending = s := rfl

/-! ## State.setSpan -/

@[simp] theorem State.setSpan_control (s : State) (sp : Fin 4) (u : SpanUnit) : (s.setSpan sp u).control = s.control := rfl
@[simp] theorem State.setSpan_link (s : State) (sp : Fin 4) (u : SpanUnit) : (s.setSpan sp u).link = s.link := rfl
@[simp] theorem State.setSpan_table (s : State) (sp : Fin 4) (u : SpanUnit) : (s.setSpan sp u).table = s.table := rfl
@[simp] theorem State.setSpan_router (s : State) (sp : Fin 4) (u : SpanUnit) : (s.setSpan sp u).router = s.router := rfl
@[simp] theorem State.setSpan_notices (s : State) (sp : Fin 4) (u : SpanUnit) : (s.setSpan sp u).notices = s.notices := rfl
@[simp] theorem State.setSpan_alerts (s : State) (sp : Fin 4) (u : SpanUnit) : (s.setSpan sp u).alerts = s.alerts := rfl
@[simp] theorem State.setSpan_params (s : State) (sp : Fin 4) (u : SpanUnit) : (s.setSpan sp u).params = s.params := rfl
@[simp] theorem State.setSpan_pending (s : State) (sp : Fin 4) (u : SpanUnit) : (s.setSpan sp u).pending = s.pending := rfl

/-- The Span Unit just replaced. -/
@[simp] theorem State.setSpan_span_self (s : State) (sp : Fin 4) (u : SpanUnit) : (s.setSpan sp u).span sp = u := by
  simp [State.setSpan, State.span]

/-- Every other Span Unit is left as it was. -/
theorem State.setSpan_span_ne (s : State) {sp sq : Fin 4} (u : SpanUnit) (h : sq ≠ sp) :
    (s.setSpan sp u).span sq = s.span sq := by
  simp [State.setSpan, State.span, Fin.val_inj, h.symm]

theorem State.setSpan_span (s : State) (sp sq : Fin 4) (u : SpanUnit) :
    (s.setSpan sp u).span sq = if sq = sp then u else s.span sq := by
  split
  · next h => subst h; simp
  · next h => exact s.setSpan_span_ne u h

@[simp] theorem State.setSpan_setSpan (s : State) (sp : Fin 4) (u v : SpanUnit) :
    (s.setSpan sp u).setSpan sp v = s.setSpan sp v := by
  simp [State.setSpan, State.setSpans]

/-- Replacing a Span Unit by itself changes nothing. -/
@[simp] theorem State.setSpan_self (s : State) (sp : Fin 4) : s.setSpan sp (s.span sp) = s := by
  simp [State.setSpan, State.span, State.setSpans]

/-! ## State.updateSpan and State.setEntries -/

@[simp] theorem State.updateSpan_control (s : State) (sp : Fin 4) (f : SpanUnit → SpanUnit) : (s.updateSpan sp f).control = s.control := rfl
@[simp] theorem State.updateSpan_link (s : State) (sp : Fin 4) (f : SpanUnit → SpanUnit) : (s.updateSpan sp f).link = s.link := rfl
@[simp] theorem State.updateSpan_table (s : State) (sp : Fin 4) (f : SpanUnit → SpanUnit) : (s.updateSpan sp f).table = s.table := rfl
@[simp] theorem State.updateSpan_router (s : State) (sp : Fin 4) (f : SpanUnit → SpanUnit) : (s.updateSpan sp f).router = s.router := rfl
@[simp] theorem State.updateSpan_notices (s : State) (sp : Fin 4) (f : SpanUnit → SpanUnit) : (s.updateSpan sp f).notices = s.notices := rfl
@[simp] theorem State.updateSpan_alerts (s : State) (sp : Fin 4) (f : SpanUnit → SpanUnit) : (s.updateSpan sp f).alerts = s.alerts := rfl
@[simp] theorem State.updateSpan_params (s : State) (sp : Fin 4) (f : SpanUnit → SpanUnit) : (s.updateSpan sp f).params = s.params := rfl
@[simp] theorem State.updateSpan_pending (s : State) (sp : Fin 4) (f : SpanUnit → SpanUnit) : (s.updateSpan sp f).pending = s.pending := rfl
@[simp] theorem State.updateSpan_span_self (s : State) (sp : Fin 4) (f : SpanUnit → SpanUnit) :
    (s.updateSpan sp f).span sp = f (s.span sp) := by
  simp [State.updateSpan]

theorem State.updateSpan_span_ne (s : State) {sp sq : Fin 4} (f : SpanUnit → SpanUnit) (h : sq ≠ sp) :
    (s.updateSpan sp f).span sq = s.span sq := s.setSpan_span_ne _ h

theorem State.updateSpan_span (s : State) (sp sq : Fin 4) (f : SpanUnit → SpanUnit) :
    (s.updateSpan sp f).span sq = if sq = sp then f (s.span sp) else s.span sq := s.setSpan_span sp sq _

@[simp] theorem State.setEntries_control (s : State) (es : List Entry) : (s.setEntries es).control = s.control := rfl
@[simp] theorem State.setEntries_link (s : State) (es : List Entry) : (s.setEntries es).link = s.link := rfl
@[simp] theorem State.setEntries_router (s : State) (es : List Entry) : (s.setEntries es).router = s.router := rfl
@[simp] theorem State.setEntries_spans (s : State) (es : List Entry) : (s.setEntries es).spans = s.spans := rfl
@[simp] theorem State.setEntries_notices (s : State) (es : List Entry) : (s.setEntries es).notices = s.notices := rfl
@[simp] theorem State.setEntries_alerts (s : State) (es : List Entry) : (s.setEntries es).alerts = s.alerts := rfl
@[simp] theorem State.setEntries_params (s : State) (es : List Entry) : (s.setEntries es).params = s.params := rfl
@[simp] theorem State.setEntries_pending (s : State) (es : List Entry) : (s.setEntries es).pending = s.pending := rfl
@[simp] theorem State.setEntries_span (s : State) (es : List Entry) (sp : Fin 4) : (s.setEntries es).span sp = s.span sp := rfl
@[simp] theorem State.setEntries_entries (s : State) (es : List Entry) : (s.setEntries es).table.entries = es := rfl
@[simp] theorem State.setEntries_discardCount (s : State) (es : List Entry) :
    (s.setEntries es).table.discardCount = s.table.discardCount := rfl
@[simp] theorem State.setEntries_reclaimCount (s : State) (es : List Entry) :
    (s.setEntries es).table.reclaimCount = s.table.reclaimCount := rfl

/-! ## State.raise -/

@[simp] theorem State.raise_control (s : State) (n : AlertCondition) (c : FirstCause) : (s.raise n c).control = s.control := rfl
@[simp] theorem State.raise_link (s : State) (n : AlertCondition) (c : FirstCause) : (s.raise n c).link = s.link := rfl
@[simp] theorem State.raise_table (s : State) (n : AlertCondition) (c : FirstCause) : (s.raise n c).table = s.table := rfl
@[simp] theorem State.raise_router (s : State) (n : AlertCondition) (c : FirstCause) : (s.raise n c).router = s.router := rfl
@[simp] theorem State.raise_spans (s : State) (n : AlertCondition) (c : FirstCause) : (s.raise n c).spans = s.spans := rfl
@[simp] theorem State.raise_notices (s : State) (n : AlertCondition) (c : FirstCause) : (s.raise n c).notices = s.notices := rfl
@[simp] theorem State.raise_params (s : State) (n : AlertCondition) (c : FirstCause) : (s.raise n c).params = s.params := rfl
@[simp] theorem State.raise_pending (s : State) (n : AlertCondition) (c : FirstCause) : (s.raise n c).pending = s.pending := rfl
@[simp] theorem State.raise_span (s : State) (n : AlertCondition) (c : FirstCause) (sp : Fin 4) :
    (s.raise n c).span sp = s.span sp := rfl
@[simp] theorem State.raise_alerts (s : State) (n : AlertCondition) (c : FirstCause) :
    (s.raise n c).alerts = s.alerts.raise n c := rfl

/-! ## AlertUnit.setCondition -/

@[simp] theorem AlertUnit.setCondition_reporting (a : AlertUnit) (n : Fin 10) (c : Condition) :
    (a.setCondition n c).reporting = a.reporting := rfl
@[simp] theorem AlertUnit.setCondition_due (a : AlertUnit) (n : Fin 10) (c : Condition) :
    (a.setCondition n c).due = a.due := rfl
@[simp] theorem AlertUnit.setCondition_attn (a : AlertUnit) (n : Fin 10) (c : Condition) :
    (a.setCondition n c).attn = a.attn := rfl

theorem AlertUnit.setCondition_condition (a : AlertUnit) (n m : Fin 10) (c : Condition) :
    (a.setCondition n c).condition m = if m = n then c else a.condition m := by
  simp only [AlertUnit.setCondition, AlertUnit.condition, Fin.getElem_fin, Vector.getElem_set]
  by_cases h : n = m
  · subst h; simp
  · have h' : ¬ n.val = m.val := fun e => h (Fin.ext e)
    simp [h', Ne.symm h]

end Sys2Proof.Machine
end

