-- ==== Sys2Proof/Laws/Frames.lean ====
section
/-! SUPPORT. What each shared operation leaves alone, block by block: one lemma for each block it does not touch. -/

namespace Sys2Proof.Machine

set_option Elab.async false -- one proof after another: the threads of many at once would fill the memory

/-! ## State.offer -/

@[simp] theorem State.offer_control (s : State) (span : Fin 4) (node kind value : Nat) : (s.offer span node kind value).control = s.control := by
  simp only [State.offer]
  split
  · rfl
  · split <;> rfl
@[simp] theorem State.offer_link (s : State) (span : Fin 4) (node kind value : Nat) : (s.offer span node kind value).link = s.link := by
  simp only [State.offer]
  split
  · rfl
  · split <;> rfl
@[simp] theorem State.offer_table (s : State) (span : Fin 4) (node kind value : Nat) : (s.offer span node kind value).table = s.table := by
  simp only [State.offer]
  split
  · rfl
  · split <;> rfl
@[simp] theorem State.offer_router (s : State) (span : Fin 4) (node kind value : Nat) : (s.offer span node kind value).router = s.router := by
  simp only [State.offer]
  split
  · rfl
  · split <;> rfl
@[simp] theorem State.offer_spans (s : State) (span : Fin 4) (node kind value : Nat) : (s.offer span node kind value).spans = s.spans := by
  simp only [State.offer]
  split
  · rfl
  · split <;> rfl
@[simp] theorem State.offer_params (s : State) (span : Fin 4) (node kind value : Nat) : (s.offer span node kind value).params = s.params := by
  simp only [State.offer]
  split
  · rfl
  · split <;> rfl
@[simp] theorem State.offer_pending (s : State) (span : Fin 4) (node kind value : Nat) : (s.offer span node kind value).pending = s.pending := by
  simp only [State.offer]
  split
  · rfl
  · split <;> rfl
@[simp] theorem State.offer_span (s : State) (span : Fin 4) (node kind value : Nat) (q : Fin 4) : (s.offer span node kind value).span q = s.span q :=
  congrArg (fun v : Vector SpanUnit 4 => v[q]) (State.offer_spans s span node kind value)

/-! ## State.startDeferred -/

@[simp] theorem State.startDeferred_control (s : State) (sp : Fin 4) : (s.startDeferred sp).control = s.control := by
  simp only [State.startDeferred]
  repeat' split
  all_goals rfl
@[simp] theorem State.startDeferred_link (s : State) (sp : Fin 4) : (s.startDeferred sp).link = s.link := by
  simp only [State.startDeferred]
  repeat' split
  all_goals rfl
@[simp] theorem State.startDeferred_router (s : State) (sp : Fin 4) : (s.startDeferred sp).router = s.router := by
  simp only [State.startDeferred]
  repeat' split
  all_goals rfl
@[simp] theorem State.startDeferred_notices (s : State) (sp : Fin 4) : (s.startDeferred sp).notices = s.notices := by
  simp only [State.startDeferred]
  repeat' split
  all_goals rfl
@[simp] theorem State.startDeferred_alerts (s : State) (sp : Fin 4) : (s.startDeferred sp).alerts = s.alerts := by
  simp only [State.startDeferred]
  repeat' split
  all_goals rfl
@[simp] theorem State.startDeferred_params (s : State) (sp : Fin 4) : (s.startDeferred sp).params = s.params := by
  simp only [State.startDeferred]
  repeat' split
  all_goals rfl
@[simp] theorem State.startDeferred_pending (s : State) (sp : Fin 4) : (s.startDeferred sp).pending = s.pending := by
  simp only [State.startDeferred]
  repeat' split
  all_goals rfl

/-! ## State.decision -/

@[simp] theorem State.decision_control (s : State) (sp : Fin 4) : (s.decision sp).control = s.control := by
  simp only [State.decision]
  repeat' split
  all_goals simp
@[simp] theorem State.decision_link (s : State) (sp : Fin 4) : (s.decision sp).link = s.link := by
  simp only [State.decision]
  repeat' split
  all_goals simp
@[simp] theorem State.decision_router (s : State) (sp : Fin 4) : (s.decision sp).router = s.router := by
  simp only [State.decision]
  repeat' split
  all_goals simp
@[simp] theorem State.decision_notices (s : State) (sp : Fin 4) : (s.decision sp).notices = s.notices := by
  simp only [State.decision]
  repeat' split
  all_goals simp
@[simp] theorem State.decision_alerts (s : State) (sp : Fin 4) : (s.decision sp).alerts = s.alerts := by
  simp only [State.decision]
  repeat' split
  all_goals simp
@[simp] theorem State.decision_params (s : State) (sp : Fin 4) : (s.decision sp).params = s.params := by
  simp only [State.decision]
  repeat' split
  all_goals simp
@[simp] theorem State.decision_pending (s : State) (sp : Fin 4) : (s.decision sp).pending = s.pending := by
  simp only [State.decision]
  repeat' split
  all_goals simp

/-! ## State.schedule -/

@[simp] theorem State.schedule_control (s : State) (sp : Fin 4) : (s.schedule sp).control = s.control := by
  simp only [State.schedule]
  split <;> simp
@[simp] theorem State.schedule_link (s : State) (sp : Fin 4) : (s.schedule sp).link = s.link := by
  simp only [State.schedule]
  split <;> simp
@[simp] theorem State.schedule_router (s : State) (sp : Fin 4) : (s.schedule sp).router = s.router := by
  simp only [State.schedule]
  split <;> simp
@[simp] theorem State.schedule_notices (s : State) (sp : Fin 4) : (s.schedule sp).notices = s.notices := by
  simp only [State.schedule]
  split <;> simp
@[simp] theorem State.schedule_alerts (s : State) (sp : Fin 4) : (s.schedule sp).alerts = s.alerts := by
  simp only [State.schedule]
  split <;> simp
@[simp] theorem State.schedule_params (s : State) (sp : Fin 4) : (s.schedule sp).params = s.params := by
  simp only [State.schedule]
  split <;> simp
@[simp] theorem State.schedule_pending (s : State) (sp : Fin 4) : (s.schedule sp).pending = s.pending := by
  simp only [State.schedule]
  split <;> simp

/-! ## State.answered -/

@[simp] theorem State.answered_control (s : State) (sp : Fin 4) (address : Nat) : (s.answered sp address).control = s.control := by
  simp only [State.answered]
  repeat' split
  all_goals simp
@[simp] theorem State.answered_link (s : State) (sp : Fin 4) (address : Nat) : (s.answered sp address).link = s.link := by
  simp only [State.answered]
  repeat' split
  all_goals simp
@[simp] theorem State.answered_table (s : State) (sp : Fin 4) (address : Nat) : (s.answered sp address).table = s.table := by
  simp only [State.answered]
  repeat' split
  all_goals simp
@[simp] theorem State.answered_router (s : State) (sp : Fin 4) (address : Nat) : (s.answered sp address).router = s.router := by
  simp only [State.answered]
  repeat' split
  all_goals simp
@[simp] theorem State.answered_params (s : State) (sp : Fin 4) (address : Nat) : (s.answered sp address).params = s.params := by
  simp only [State.answered]
  repeat' split
  all_goals simp
@[simp] theorem State.answered_pending (s : State) (sp : Fin 4) (address : Nat) : (s.answered sp address).pending = s.pending := by
  simp only [State.answered]
  repeat' split
  all_goals simp

/-! ## State.missed -/

@[simp] theorem State.missed_control (s : State) (sp : Fin 4) (address : Nat) : (s.missed sp address).control = s.control := by
  simp only [State.missed]
  repeat' split
  all_goals simp
@[simp] theorem State.missed_link (s : State) (sp : Fin 4) (address : Nat) : (s.missed sp address).link = s.link := by
  simp only [State.missed]
  repeat' split
  all_goals simp
@[simp] theorem State.missed_table (s : State) (sp : Fin 4) (address : Nat) : (s.missed sp address).table = s.table := by
  simp only [State.missed]
  repeat' split
  all_goals simp
@[simp] theorem State.missed_router (s : State) (sp : Fin 4) (address : Nat) : (s.missed sp address).router = s.router := by
  simp only [State.missed]
  repeat' split
  all_goals simp
@[simp] theorem State.missed_params (s : State) (sp : Fin 4) (address : Nat) : (s.missed sp address).params = s.params := by
  simp only [State.missed]
  repeat' split
  all_goals simp
@[simp] theorem State.missed_pending (s : State) (sp : Fin 4) (address : Nat) : (s.missed sp address).pending = s.pending := by
  simp only [State.missed]
  repeat' split
  all_goals simp

/-! ## State.pollOutcome -/

@[simp] theorem State.pollOutcome_control (s : State) (sp : Fin 4) (address : Nat) (r : AttemptResult) : (s.pollOutcome sp address r).control = s.control := by
  cases r <;> simp only [State.pollOutcome]
  all_goals first | (split <;> simp) | simp
@[simp] theorem State.pollOutcome_link (s : State) (sp : Fin 4) (address : Nat) (r : AttemptResult) : (s.pollOutcome sp address r).link = s.link := by
  cases r <;> simp only [State.pollOutcome]
  all_goals first | (split <;> simp) | simp
@[simp] theorem State.pollOutcome_table (s : State) (sp : Fin 4) (address : Nat) (r : AttemptResult) : (s.pollOutcome sp address r).table = s.table := by
  cases r <;> simp only [State.pollOutcome]
  all_goals first | (split <;> simp) | simp
@[simp] theorem State.pollOutcome_router (s : State) (sp : Fin 4) (address : Nat) (r : AttemptResult) : (s.pollOutcome sp address r).router = s.router := by
  cases r <;> simp only [State.pollOutcome]
  all_goals first | (split <;> simp) | simp
@[simp] theorem State.pollOutcome_params (s : State) (sp : Fin 4) (address : Nat) (r : AttemptResult) : (s.pollOutcome sp address r).params = s.params := by
  cases r <;> simp only [State.pollOutcome]
  all_goals first | (split <;> simp) | simp
@[simp] theorem State.pollOutcome_pending (s : State) (sp : Fin 4) (address : Nat) (r : AttemptResult) : (s.pollOutcome sp address r).pending = s.pending := by
  cases r <;> simp only [State.pollOutcome]
  all_goals first | (split <;> simp) | simp

/-! ## State.postEnded -/

@[simp] theorem State.postEnded_control (s : State) (sp : Fin 4) (o : CompletionOutcome) : (s.postEnded sp o).control = s.control := by
  simp only [State.postEnded]
  repeat' split
  all_goals simp
@[simp] theorem State.postEnded_link (s : State) (sp : Fin 4) (o : CompletionOutcome) : (s.postEnded sp o).link = s.link := by
  simp only [State.postEnded]
  repeat' split
  all_goals simp
@[simp] theorem State.postEnded_router (s : State) (sp : Fin 4) (o : CompletionOutcome) : (s.postEnded sp o).router = s.router := by
  simp only [State.postEnded]
  repeat' split
  all_goals simp
@[simp] theorem State.postEnded_notices (s : State) (sp : Fin 4) (o : CompletionOutcome) : (s.postEnded sp o).notices = s.notices := by
  simp only [State.postEnded]
  repeat' split
  all_goals simp
@[simp] theorem State.postEnded_params (s : State) (sp : Fin 4) (o : CompletionOutcome) : (s.postEnded sp o).params = s.params := by
  simp only [State.postEnded]
  repeat' split
  all_goals simp
@[simp] theorem State.postEnded_pending (s : State) (sp : Fin 4) (o : CompletionOutcome) : (s.postEnded sp o).pending = s.pending := by
  simp only [State.postEnded]
  repeat' split
  all_goals simp

/-! ## State.deferredEnded -/

@[simp] theorem State.deferredEnded_control (s : State) (sp : Fin 4) (r : CompletionRecord) : (s.deferredEnded sp r).control = s.control := by
  rfl
@[simp] theorem State.deferredEnded_link (s : State) (sp : Fin 4) (r : CompletionRecord) : (s.deferredEnded sp r).link = s.link := by
  rfl
@[simp] theorem State.deferredEnded_router (s : State) (sp : Fin 4) (r : CompletionRecord) : (s.deferredEnded sp r).router = s.router := by
  rfl
@[simp] theorem State.deferredEnded_spans (s : State) (sp : Fin 4) (r : CompletionRecord) : (s.deferredEnded sp r).spans = s.spans := by
  rfl
@[simp] theorem State.deferredEnded_notices (s : State) (sp : Fin 4) (r : CompletionRecord) : (s.deferredEnded sp r).notices = s.notices := by
  rfl
@[simp] theorem State.deferredEnded_alerts (s : State) (sp : Fin 4) (r : CompletionRecord) : (s.deferredEnded sp r).alerts = s.alerts := by
  rfl
@[simp] theorem State.deferredEnded_params (s : State) (sp : Fin 4) (r : CompletionRecord) : (s.deferredEnded sp r).params = s.params := by
  rfl
@[simp] theorem State.deferredEnded_pending (s : State) (sp : Fin 4) (r : CompletionRecord) : (s.deferredEnded sp r).pending = s.pending := by
  rfl
@[simp] theorem State.deferredEnded_span (s : State) (sp : Fin 4) (r : CompletionRecord) (q : Fin 4) : (s.deferredEnded sp r).span q = s.span q :=
  congrArg (fun v : Vector SpanUnit 4 => v[q]) (State.deferredEnded_spans s sp r)

/-! ## State.jobEnded -/

@[simp] theorem State.jobEnded_control (s : State) (sp : Fin 4) : (s.jobEnded sp).control = s.control := by
  simp only [State.jobEnded]
  split <;> simp
@[simp] theorem State.jobEnded_link (s : State) (sp : Fin 4) : (s.jobEnded sp).link = s.link := by
  simp only [State.jobEnded]
  split <;> simp
@[simp] theorem State.jobEnded_router (s : State) (sp : Fin 4) : (s.jobEnded sp).router = s.router := by
  simp only [State.jobEnded]
  split <;> simp
@[simp] theorem State.jobEnded_notices (s : State) (sp : Fin 4) : (s.jobEnded sp).notices = s.notices := by
  simp only [State.jobEnded]
  split <;> simp
@[simp] theorem State.jobEnded_alerts (s : State) (sp : Fin 4) : (s.jobEnded sp).alerts = s.alerts := by
  simp only [State.jobEnded]
  split <;> simp
@[simp] theorem State.jobEnded_params (s : State) (sp : Fin 4) : (s.jobEnded sp).params = s.params := by
  simp only [State.jobEnded]
  split <;> simp
@[simp] theorem State.jobEnded_pending (s : State) (sp : Fin 4) : (s.jobEnded sp).pending = s.pending := by
  simp only [State.jobEnded]
  split <;> simp

/-! ## State.handOver -/

@[simp] theorem State.handOver_control (s : State) (sp : Fin 4) (j : Job) (r : AttemptResult) : (s.handOver sp j r).control = s.control := by
  simp only [State.handOver]
  repeat' split
  all_goals simp
@[simp] theorem State.handOver_link (s : State) (sp : Fin 4) (j : Job) (r : AttemptResult) : (s.handOver sp j r).link = s.link := by
  simp only [State.handOver]
  repeat' split
  all_goals simp
@[simp] theorem State.handOver_router (s : State) (sp : Fin 4) (j : Job) (r : AttemptResult) : (s.handOver sp j r).router = s.router := by
  simp only [State.handOver]
  repeat' split
  all_goals simp
@[simp] theorem State.handOver_params (s : State) (sp : Fin 4) (j : Job) (r : AttemptResult) : (s.handOver sp j r).params = s.params := by
  simp only [State.handOver]
  repeat' split
  all_goals simp
@[simp] theorem State.handOver_pending (s : State) (sp : Fin 4) (j : Job) (r : AttemptResult) : (s.handOver sp j r).pending = s.pending := by
  simp only [State.handOver]
  repeat' split
  all_goals simp

/-! ## State.attemptEnded -/

@[simp] theorem State.attemptEnded_control (s : State) (sp : Fin 4) (r : AttemptResult) : (s.attemptEnded sp r).control = s.control := by
  simp only [State.attemptEnded]
  repeat' split
  all_goals simp
@[simp] theorem State.attemptEnded_link (s : State) (sp : Fin 4) (r : AttemptResult) : (s.attemptEnded sp r).link = s.link := by
  simp only [State.attemptEnded]
  repeat' split
  all_goals simp
@[simp] theorem State.attemptEnded_router (s : State) (sp : Fin 4) (r : AttemptResult) : (s.attemptEnded sp r).router = s.router := by
  simp only [State.attemptEnded]
  repeat' split
  all_goals simp
@[simp] theorem State.attemptEnded_params (s : State) (sp : Fin 4) (r : AttemptResult) : (s.attemptEnded sp r).params = s.params := by
  simp only [State.attemptEnded]
  repeat' split
  all_goals simp
@[simp] theorem State.attemptEnded_pending (s : State) (sp : Fin 4) (r : AttemptResult) : (s.attemptEnded sp r).pending = s.pending := by
  simp only [State.attemptEnded]
  repeat' split
  all_goals simp

/-! ## State.cleanupClaim -/

@[simp] theorem State.cleanupClaim_control (s : State) (sp : Fin 4) (o : CompletionOutcome) (attempts : Nat) : (s.cleanupClaim sp o attempts).control = s.control := by
  rfl
@[simp] theorem State.cleanupClaim_link (s : State) (sp : Fin 4) (o : CompletionOutcome) (attempts : Nat) : (s.cleanupClaim sp o attempts).link = s.link := by
  rfl
@[simp] theorem State.cleanupClaim_router (s : State) (sp : Fin 4) (o : CompletionOutcome) (attempts : Nat) : (s.cleanupClaim sp o attempts).router = s.router := by
  rfl
@[simp] theorem State.cleanupClaim_spans (s : State) (sp : Fin 4) (o : CompletionOutcome) (attempts : Nat) : (s.cleanupClaim sp o attempts).spans = s.spans := by
  rfl
@[simp] theorem State.cleanupClaim_notices (s : State) (sp : Fin 4) (o : CompletionOutcome) (attempts : Nat) : (s.cleanupClaim sp o attempts).notices = s.notices := by
  rfl
@[simp] theorem State.cleanupClaim_alerts (s : State) (sp : Fin 4) (o : CompletionOutcome) (attempts : Nat) : (s.cleanupClaim sp o attempts).alerts = s.alerts := by
  rfl
@[simp] theorem State.cleanupClaim_params (s : State) (sp : Fin 4) (o : CompletionOutcome) (attempts : Nat) : (s.cleanupClaim sp o attempts).params = s.params := by
  rfl
@[simp] theorem State.cleanupClaim_pending (s : State) (sp : Fin 4) (o : CompletionOutcome) (attempts : Nat) : (s.cleanupClaim sp o attempts).pending = s.pending := by
  rfl
@[simp] theorem State.cleanupClaim_span (s : State) (sp : Fin 4) (o : CompletionOutcome) (attempts : Nat) (q : Fin 4) : (s.cleanupClaim sp o attempts).span q = s.span q :=
  congrArg (fun v : Vector SpanUnit 4 => v[q]) (State.cleanupClaim_spans s sp o attempts)

/-! ## State.raiseDiscarded -/

@[simp] theorem State.raiseDiscarded_control (s : State) (sp : Fin 4) (posts : List Post) : (s.raiseDiscarded sp posts).control = s.control := by
  cases posts <;> rfl
@[simp] theorem State.raiseDiscarded_link (s : State) (sp : Fin 4) (posts : List Post) : (s.raiseDiscarded sp posts).link = s.link := by
  cases posts <;> rfl
@[simp] theorem State.raiseDiscarded_table (s : State) (sp : Fin 4) (posts : List Post) : (s.raiseDiscarded sp posts).table = s.table := by
  cases posts <;> rfl
@[simp] theorem State.raiseDiscarded_router (s : State) (sp : Fin 4) (posts : List Post) : (s.raiseDiscarded sp posts).router = s.router := by
  cases posts <;> rfl
@[simp] theorem State.raiseDiscarded_spans (s : State) (sp : Fin 4) (posts : List Post) : (s.raiseDiscarded sp posts).spans = s.spans := by
  cases posts <;> rfl
@[simp] theorem State.raiseDiscarded_notices (s : State) (sp : Fin 4) (posts : List Post) : (s.raiseDiscarded sp posts).notices = s.notices := by
  cases posts <;> rfl
@[simp] theorem State.raiseDiscarded_params (s : State) (sp : Fin 4) (posts : List Post) : (s.raiseDiscarded sp posts).params = s.params := by
  cases posts <;> rfl
@[simp] theorem State.raiseDiscarded_pending (s : State) (sp : Fin 4) (posts : List Post) : (s.raiseDiscarded sp posts).pending = s.pending := by
  cases posts <;> rfl
@[simp] theorem State.raiseDiscarded_span (s : State) (sp : Fin 4) (posts : List Post) (q : Fin 4) : (s.raiseDiscarded sp posts).span q = s.span q :=
  congrArg (fun v : Vector SpanUnit 4 => v[q]) (State.raiseDiscarded_spans s sp posts)

/-! ## State.shutSpan -/

@[simp] theorem State.shutSpan_control (s : State) (sp : Fin 4) (target : SpanState) (scheduler : Scheduler) (o : CompletionOutcome) : (s.shutSpan sp target scheduler o).control = s.control := by
  simp [State.shutSpan]
@[simp] theorem State.shutSpan_link (s : State) (sp : Fin 4) (target : SpanState) (scheduler : Scheduler) (o : CompletionOutcome) : (s.shutSpan sp target scheduler o).link = s.link := by
  simp [State.shutSpan]
@[simp] theorem State.shutSpan_router (s : State) (sp : Fin 4) (target : SpanState) (scheduler : Scheduler) (o : CompletionOutcome) : (s.shutSpan sp target scheduler o).router = s.router := by
  simp [State.shutSpan]
@[simp] theorem State.shutSpan_notices (s : State) (sp : Fin 4) (target : SpanState) (scheduler : Scheduler) (o : CompletionOutcome) : (s.shutSpan sp target scheduler o).notices = s.notices := by
  simp [State.shutSpan]
@[simp] theorem State.shutSpan_params (s : State) (sp : Fin 4) (target : SpanState) (scheduler : Scheduler) (o : CompletionOutcome) : (s.shutSpan sp target scheduler o).params = s.params := by
  simp [State.shutSpan]
@[simp] theorem State.shutSpan_pending (s : State) (sp : Fin 4) (target : SpanState) (scheduler : Scheduler) (o : CompletionOutcome) : (s.shutSpan sp target scheduler o).pending = s.pending := by
  simp [State.shutSpan]

/-! ## State.spanEnable -/

@[simp] theorem State.spanEnable_control (s : State) (sp : Fin 4) : ((s.spanEnable sp).1).control = s.control := by
  simp only [State.spanEnable]
  split <;> simp
@[simp] theorem State.spanEnable_link (s : State) (sp : Fin 4) : ((s.spanEnable sp).1).link = s.link := by
  simp only [State.spanEnable]
  split <;> simp
@[simp] theorem State.spanEnable_router (s : State) (sp : Fin 4) : ((s.spanEnable sp).1).router = s.router := by
  simp only [State.spanEnable]
  split <;> simp
@[simp] theorem State.spanEnable_notices (s : State) (sp : Fin 4) : ((s.spanEnable sp).1).notices = s.notices := by
  simp only [State.spanEnable]
  split <;> simp
@[simp] theorem State.spanEnable_alerts (s : State) (sp : Fin 4) : ((s.spanEnable sp).1).alerts = s.alerts := by
  simp only [State.spanEnable]
  split <;> simp
@[simp] theorem State.spanEnable_params (s : State) (sp : Fin 4) : ((s.spanEnable sp).1).params = s.params := by
  simp only [State.spanEnable]
  split <;> simp
@[simp] theorem State.spanEnable_pending (s : State) (sp : Fin 4) : ((s.spanEnable sp).1).pending = s.pending := by
  simp only [State.spanEnable]
  split <;> simp

/-! ## State.spanQuiesce -/

@[simp] theorem State.spanQuiesce_control (s : State) (sp : Fin 4) : ((s.spanQuiesce sp).1).control = s.control := by
  simp only [State.spanQuiesce]
  split <;> simp
@[simp] theorem State.spanQuiesce_link (s : State) (sp : Fin 4) : ((s.spanQuiesce sp).1).link = s.link := by
  simp only [State.spanQuiesce]
  split <;> simp
@[simp] theorem State.spanQuiesce_table (s : State) (sp : Fin 4) : ((s.spanQuiesce sp).1).table = s.table := by
  simp only [State.spanQuiesce]
  split <;> simp
@[simp] theorem State.spanQuiesce_router (s : State) (sp : Fin 4) : ((s.spanQuiesce sp).1).router = s.router := by
  simp only [State.spanQuiesce]
  split <;> simp
@[simp] theorem State.spanQuiesce_notices (s : State) (sp : Fin 4) : ((s.spanQuiesce sp).1).notices = s.notices := by
  simp only [State.spanQuiesce]
  split <;> simp
@[simp] theorem State.spanQuiesce_alerts (s : State) (sp : Fin 4) : ((s.spanQuiesce sp).1).alerts = s.alerts := by
  simp only [State.spanQuiesce]
  split <;> simp
@[simp] theorem State.spanQuiesce_params (s : State) (sp : Fin 4) : ((s.spanQuiesce sp).1).params = s.params := by
  simp only [State.spanQuiesce]
  split <;> simp
@[simp] theorem State.spanQuiesce_pending (s : State) (sp : Fin 4) : ((s.spanQuiesce sp).1).pending = s.pending := by
  simp only [State.spanQuiesce]
  split <;> simp

/-! ## State.spanOff -/

@[simp] theorem State.spanOff_control (s : State) (sp : Fin 4) : ((s.spanOff sp).1).control = s.control := by
  simp only [State.spanOff]
  split <;> simp
@[simp] theorem State.spanOff_link (s : State) (sp : Fin 4) : ((s.spanOff sp).1).link = s.link := by
  simp only [State.spanOff]
  split <;> simp
@[simp] theorem State.spanOff_router (s : State) (sp : Fin 4) : ((s.spanOff sp).1).router = s.router := by
  simp only [State.spanOff]
  split <;> simp
@[simp] theorem State.spanOff_notices (s : State) (sp : Fin 4) : ((s.spanOff sp).1).notices = s.notices := by
  simp only [State.spanOff]
  split <;> simp
@[simp] theorem State.spanOff_params (s : State) (sp : Fin 4) : ((s.spanOff sp).1).params = s.params := by
  simp only [State.spanOff]
  split <;> simp
@[simp] theorem State.spanOff_pending (s : State) (sp : Fin 4) : ((s.spanOff sp).1).pending = s.pending := by
  simp only [State.spanOff]
  split <;> simp

/-! ## State.lineFault -/

@[simp] theorem State.lineFault_control (s : State) (sp : Fin 4) : (s.lineFault sp).control = s.control := by
  simp only [State.lineFault]
  split <;> simp
@[simp] theorem State.lineFault_link (s : State) (sp : Fin 4) : (s.lineFault sp).link = s.link := by
  simp only [State.lineFault]
  split <;> simp
@[simp] theorem State.lineFault_router (s : State) (sp : Fin 4) : (s.lineFault sp).router = s.router := by
  simp only [State.lineFault]
  split <;> simp
@[simp] theorem State.lineFault_notices (s : State) (sp : Fin 4) : (s.lineFault sp).notices = s.notices := by
  simp only [State.lineFault]
  split <;> simp
@[simp] theorem State.lineFault_params (s : State) (sp : Fin 4) : (s.lineFault sp).params = s.params := by
  simp only [State.lineFault]
  split <;> simp
@[simp] theorem State.lineFault_pending (s : State) (sp : Fin 4) : (s.lineFault sp).pending = s.pending := by
  simp only [State.lineFault]
  split <;> simp

/-! ## State.settleExpired -/

@[simp] theorem State.settleExpired_control (s : State) (sp : Fin 4) : (s.settleExpired sp).control = s.control := by
  simp only [State.settleExpired]
  split <;> simp
@[simp] theorem State.settleExpired_link (s : State) (sp : Fin 4) : (s.settleExpired sp).link = s.link := by
  simp only [State.settleExpired]
  split <;> simp
@[simp] theorem State.settleExpired_router (s : State) (sp : Fin 4) : (s.settleExpired sp).router = s.router := by
  simp only [State.settleExpired]
  split <;> simp
@[simp] theorem State.settleExpired_notices (s : State) (sp : Fin 4) : (s.settleExpired sp).notices = s.notices := by
  simp only [State.settleExpired]
  split <;> simp
@[simp] theorem State.settleExpired_alerts (s : State) (sp : Fin 4) : (s.settleExpired sp).alerts = s.alerts := by
  simp only [State.settleExpired]
  split <;> simp
@[simp] theorem State.settleExpired_params (s : State) (sp : Fin 4) : (s.settleExpired sp).params = s.params := by
  simp only [State.settleExpired]
  split <;> simp
@[simp] theorem State.settleExpired_pending (s : State) (sp : Fin 4) : (s.settleExpired sp).pending = s.pending := by
  simp only [State.settleExpired]
  split <;> simp

/-! ## State.pollTimerExpired -/

@[simp] theorem State.pollTimerExpired_control (s : State) (sp : Fin 4) : (s.pollTimerExpired sp).control = s.control := by
  simp only [State.pollTimerExpired]
  repeat' split
  all_goals simp
@[simp] theorem State.pollTimerExpired_link (s : State) (sp : Fin 4) : (s.pollTimerExpired sp).link = s.link := by
  simp only [State.pollTimerExpired]
  repeat' split
  all_goals simp
@[simp] theorem State.pollTimerExpired_router (s : State) (sp : Fin 4) : (s.pollTimerExpired sp).router = s.router := by
  simp only [State.pollTimerExpired]
  repeat' split
  all_goals simp
@[simp] theorem State.pollTimerExpired_notices (s : State) (sp : Fin 4) : (s.pollTimerExpired sp).notices = s.notices := by
  simp only [State.pollTimerExpired]
  repeat' split
  all_goals simp
@[simp] theorem State.pollTimerExpired_alerts (s : State) (sp : Fin 4) : (s.pollTimerExpired sp).alerts = s.alerts := by
  simp only [State.pollTimerExpired]
  repeat' split
  all_goals simp
@[simp] theorem State.pollTimerExpired_params (s : State) (sp : Fin 4) : (s.pollTimerExpired sp).params = s.params := by
  simp only [State.pollTimerExpired]
  repeat' split
  all_goals simp
@[simp] theorem State.pollTimerExpired_pending (s : State) (sp : Fin 4) : (s.pollTimerExpired sp).pending = s.pending := by
  simp only [State.pollTimerExpired]
  repeat' split
  all_goals simp

/-! ## State.answerRepeat -/

@[simp] theorem State.answerRepeat_control (s : State) (e : Entry) : ((s.answerRepeat e).1).control = s.control := by
  simp only [State.answerRepeat]
  repeat' split
  all_goals simp
@[simp] theorem State.answerRepeat_link (s : State) (e : Entry) : ((s.answerRepeat e).1).link = s.link := by
  simp only [State.answerRepeat]
  repeat' split
  all_goals simp
@[simp] theorem State.answerRepeat_router (s : State) (e : Entry) : ((s.answerRepeat e).1).router = s.router := by
  simp only [State.answerRepeat]
  repeat' split
  all_goals simp
@[simp] theorem State.answerRepeat_spans (s : State) (e : Entry) : ((s.answerRepeat e).1).spans = s.spans := by
  simp only [State.answerRepeat]
  repeat' split
  all_goals simp
@[simp] theorem State.answerRepeat_notices (s : State) (e : Entry) : ((s.answerRepeat e).1).notices = s.notices := by
  simp only [State.answerRepeat]
  repeat' split
  all_goals simp
@[simp] theorem State.answerRepeat_alerts (s : State) (e : Entry) : ((s.answerRepeat e).1).alerts = s.alerts := by
  simp only [State.answerRepeat]
  repeat' split
  all_goals simp
@[simp] theorem State.answerRepeat_params (s : State) (e : Entry) : ((s.answerRepeat e).1).params = s.params := by
  simp only [State.answerRepeat]
  repeat' split
  all_goals simp
@[simp] theorem State.answerRepeat_pending (s : State) (e : Entry) : ((s.answerRepeat e).1).pending = s.pending := by
  simp only [State.answerRepeat]
  repeat' split
  all_goals simp
@[simp] theorem State.answerRepeat_span (s : State) (e : Entry) (q : Fin 4) : ((s.answerRepeat e).1).span q = s.span q :=
  congrArg (fun v : Vector SpanUnit 4 => v[q]) (State.answerRepeat_spans s e)

/-! ## State.acceptOpen -/

@[simp] theorem State.acceptOpen_control (s : State) (k : Key) (replaceable : Bool) (sp : Fin 4) (node : Nat) : ((s.acceptOpen k replaceable sp node).1).control = s.control := by
  simp only [State.acceptOpen]
  repeat' split
  all_goals simp
@[simp] theorem State.acceptOpen_link (s : State) (k : Key) (replaceable : Bool) (sp : Fin 4) (node : Nat) : ((s.acceptOpen k replaceable sp node).1).link = s.link := by
  simp only [State.acceptOpen]
  repeat' split
  all_goals simp
@[simp] theorem State.acceptOpen_router (s : State) (k : Key) (replaceable : Bool) (sp : Fin 4) (node : Nat) : ((s.acceptOpen k replaceable sp node).1).router = s.router := by
  simp only [State.acceptOpen]
  repeat' split
  all_goals simp
@[simp] theorem State.acceptOpen_notices (s : State) (k : Key) (replaceable : Bool) (sp : Fin 4) (node : Nat) : ((s.acceptOpen k replaceable sp node).1).notices = s.notices := by
  simp only [State.acceptOpen]
  repeat' split
  all_goals simp
@[simp] theorem State.acceptOpen_alerts (s : State) (k : Key) (replaceable : Bool) (sp : Fin 4) (node : Nat) : ((s.acceptOpen k replaceable sp node).1).alerts = s.alerts := by
  simp only [State.acceptOpen]
  repeat' split
  all_goals simp
@[simp] theorem State.acceptOpen_params (s : State) (k : Key) (replaceable : Bool) (sp : Fin 4) (node : Nat) : ((s.acceptOpen k replaceable sp node).1).params = s.params := by
  simp only [State.acceptOpen]
  repeat' split
  all_goals simp
@[simp] theorem State.acceptOpen_pending (s : State) (k : Key) (replaceable : Bool) (sp : Fin 4) (node : Nat) : ((s.acceptOpen k replaceable sp node).1).pending = s.pending := by
  simp only [State.acceptOpen]
  repeat' split
  all_goals simp

/-! ## State.acceptClosed -/

@[simp] theorem State.acceptClosed_control (s : State) (k : Key) (replaceable : Bool) (sp : Fin 4) (node : Nat) : ((s.acceptClosed k replaceable sp node).1).control = s.control := by
  simp only [State.acceptClosed]
  repeat' split
  all_goals simp
@[simp] theorem State.acceptClosed_link (s : State) (k : Key) (replaceable : Bool) (sp : Fin 4) (node : Nat) : ((s.acceptClosed k replaceable sp node).1).link = s.link := by
  simp only [State.acceptClosed]
  repeat' split
  all_goals simp
@[simp] theorem State.acceptClosed_router (s : State) (k : Key) (replaceable : Bool) (sp : Fin 4) (node : Nat) : ((s.acceptClosed k replaceable sp node).1).router = s.router := by
  simp only [State.acceptClosed]
  repeat' split
  all_goals simp
@[simp] theorem State.acceptClosed_spans (s : State) (k : Key) (replaceable : Bool) (sp : Fin 4) (node : Nat) : ((s.acceptClosed k replaceable sp node).1).spans = s.spans := by
  simp only [State.acceptClosed]
  repeat' split
  all_goals simp
@[simp] theorem State.acceptClosed_notices (s : State) (k : Key) (replaceable : Bool) (sp : Fin 4) (node : Nat) : ((s.acceptClosed k replaceable sp node).1).notices = s.notices := by
  simp only [State.acceptClosed]
  repeat' split
  all_goals simp
@[simp] theorem State.acceptClosed_alerts (s : State) (k : Key) (replaceable : Bool) (sp : Fin 4) (node : Nat) : ((s.acceptClosed k replaceable sp node).1).alerts = s.alerts := by
  simp only [State.acceptClosed]
  repeat' split
  all_goals simp
@[simp] theorem State.acceptClosed_params (s : State) (k : Key) (replaceable : Bool) (sp : Fin 4) (node : Nat) : ((s.acceptClosed k replaceable sp node).1).params = s.params := by
  simp only [State.acceptClosed]
  repeat' split
  all_goals simp
@[simp] theorem State.acceptClosed_pending (s : State) (k : Key) (replaceable : Bool) (sp : Fin 4) (node : Nat) : ((s.acceptClosed k replaceable sp node).1).pending = s.pending := by
  simp only [State.acceptClosed]
  repeat' split
  all_goals simp
@[simp] theorem State.acceptClosed_span (s : State) (k : Key) (replaceable : Bool) (sp : Fin 4) (node : Nat) (q : Fin 4) : ((s.acceptClosed k replaceable sp node).1).span q = s.span q :=
  congrArg (fun v : Vector SpanUnit 4 => v[q]) (State.acceptClosed_spans s k replaceable sp node)

/-! ## State.request -/

@[simp] theorem State.request_control (s : State) (k : Key) (replaceable : Bool) : ((s.request k replaceable).1).control = s.control := by
  simp only [State.request]
  repeat' split
  all_goals simp
@[simp] theorem State.request_link (s : State) (k : Key) (replaceable : Bool) : ((s.request k replaceable).1).link = s.link := by
  simp only [State.request]
  repeat' split
  all_goals simp
@[simp] theorem State.request_router (s : State) (k : Key) (replaceable : Bool) : ((s.request k replaceable).1).router = s.router := by
  simp only [State.request]
  repeat' split
  all_goals simp
@[simp] theorem State.request_notices (s : State) (k : Key) (replaceable : Bool) : ((s.request k replaceable).1).notices = s.notices := by
  simp only [State.request]
  repeat' split
  all_goals simp
@[simp] theorem State.request_alerts (s : State) (k : Key) (replaceable : Bool) : ((s.request k replaceable).1).alerts = s.alerts := by
  simp only [State.request]
  repeat' split
  all_goals simp
@[simp] theorem State.request_params (s : State) (k : Key) (replaceable : Bool) : ((s.request k replaceable).1).params = s.params := by
  simp only [State.request]
  repeat' split
  all_goals simp
@[simp] theorem State.request_pending (s : State) (k : Key) (replaceable : Bool) : ((s.request k replaceable).1).pending = s.pending := by
  simp only [State.request]
  repeat' split
  all_goals simp

/-! ## State.acceptPost -/

@[simp] theorem State.acceptPost_control (s : State) (originator : Fin 8) (unit : Fin 4096) (item : Byte) (length : Nat) (data : List Byte) : ((s.acceptPost originator unit item length data).1).control = s.control := by
  simp only [State.acceptPost]
  repeat' split
  all_goals simp
@[simp] theorem State.acceptPost_link (s : State) (originator : Fin 8) (unit : Fin 4096) (item : Byte) (length : Nat) (data : List Byte) : ((s.acceptPost originator unit item length data).1).link = s.link := by
  simp only [State.acceptPost]
  repeat' split
  all_goals simp
@[simp] theorem State.acceptPost_router (s : State) (originator : Fin 8) (unit : Fin 4096) (item : Byte) (length : Nat) (data : List Byte) : ((s.acceptPost originator unit item length data).1).router = s.router := by
  simp only [State.acceptPost]
  repeat' split
  all_goals simp
@[simp] theorem State.acceptPost_notices (s : State) (originator : Fin 8) (unit : Fin 4096) (item : Byte) (length : Nat) (data : List Byte) : ((s.acceptPost originator unit item length data).1).notices = s.notices := by
  simp only [State.acceptPost]
  repeat' split
  all_goals simp
@[simp] theorem State.acceptPost_params (s : State) (originator : Fin 8) (unit : Fin 4096) (item : Byte) (length : Nat) (data : List Byte) : ((s.acceptPost originator unit item length data).1).params = s.params := by
  simp only [State.acceptPost]
  repeat' split
  all_goals simp
@[simp] theorem State.acceptPost_pending (s : State) (originator : Fin 8) (unit : Fin 4096) (item : Byte) (length : Nat) (data : List Byte) : ((s.acceptPost originator unit item length data).1).pending = s.pending := by
  simp only [State.acceptPost]
  repeat' split
  all_goals simp

/-! ## State.cancel -/

@[simp] theorem State.cancel_control (s : State) (p : Entry → Bool) : ((s.cancel p).1).control = s.control := by
  rfl
@[simp] theorem State.cancel_link (s : State) (p : Entry → Bool) : ((s.cancel p).1).link = s.link := by
  rfl
@[simp] theorem State.cancel_router (s : State) (p : Entry → Bool) : ((s.cancel p).1).router = s.router := by
  rfl
@[simp] theorem State.cancel_spans (s : State) (p : Entry → Bool) : ((s.cancel p).1).spans = s.spans := by
  rfl
@[simp] theorem State.cancel_notices (s : State) (p : Entry → Bool) : ((s.cancel p).1).notices = s.notices := by
  rfl
@[simp] theorem State.cancel_alerts (s : State) (p : Entry → Bool) : ((s.cancel p).1).alerts = s.alerts := by
  rfl
@[simp] theorem State.cancel_params (s : State) (p : Entry → Bool) : ((s.cancel p).1).params = s.params := by
  rfl
@[simp] theorem State.cancel_pending (s : State) (p : Entry → Bool) : ((s.cancel p).1).pending = s.pending := by
  rfl
@[simp] theorem State.cancel_span (s : State) (p : Entry → Bool) (q : Fin 4) : ((s.cancel p).1).span q = s.span q :=
  congrArg (fun v : Vector SpanUnit 4 => v[q]) (State.cancel_spans s p)

/-! ## State.discardExpired -/

@[simp] theorem State.discardExpired_control (s : State) (k : Key) : (s.discardExpired k).control = s.control := by
  simp only [State.discardExpired]
  repeat' split
  all_goals simp
@[simp] theorem State.discardExpired_link (s : State) (k : Key) : (s.discardExpired k).link = s.link := by
  simp only [State.discardExpired]
  repeat' split
  all_goals simp
@[simp] theorem State.discardExpired_router (s : State) (k : Key) : (s.discardExpired k).router = s.router := by
  simp only [State.discardExpired]
  repeat' split
  all_goals simp
@[simp] theorem State.discardExpired_spans (s : State) (k : Key) : (s.discardExpired k).spans = s.spans := by
  simp only [State.discardExpired]
  repeat' split
  all_goals simp
@[simp] theorem State.discardExpired_notices (s : State) (k : Key) : (s.discardExpired k).notices = s.notices := by
  simp only [State.discardExpired]
  repeat' split
  all_goals simp
@[simp] theorem State.discardExpired_params (s : State) (k : Key) : (s.discardExpired k).params = s.params := by
  simp only [State.discardExpired]
  repeat' split
  all_goals simp
@[simp] theorem State.discardExpired_pending (s : State) (k : Key) : (s.discardExpired k).pending = s.pending := by
  simp only [State.discardExpired]
  repeat' split
  all_goals simp
@[simp] theorem State.discardExpired_span (s : State) (k : Key) (q : Fin 4) : (s.discardExpired k).span q = s.span q :=
  congrArg (fun v : Vector SpanUnit 4 => v[q]) (State.discardExpired_spans s k)

/-! ## State.lingerExpired -/

@[simp] theorem State.lingerExpired_control (s : State) (k : Key) : (s.lingerExpired k).control = s.control := by
  simp only [State.lingerExpired]
  repeat' split
  all_goals simp
@[simp] theorem State.lingerExpired_link (s : State) (k : Key) : (s.lingerExpired k).link = s.link := by
  simp only [State.lingerExpired]
  repeat' split
  all_goals simp
@[simp] theorem State.lingerExpired_router (s : State) (k : Key) : (s.lingerExpired k).router = s.router := by
  simp only [State.lingerExpired]
  repeat' split
  all_goals simp
@[simp] theorem State.lingerExpired_spans (s : State) (k : Key) : (s.lingerExpired k).spans = s.spans := by
  simp only [State.lingerExpired]
  repeat' split
  all_goals simp
@[simp] theorem State.lingerExpired_notices (s : State) (k : Key) : (s.lingerExpired k).notices = s.notices := by
  simp only [State.lingerExpired]
  repeat' split
  all_goals simp
@[simp] theorem State.lingerExpired_alerts (s : State) (k : Key) : (s.lingerExpired k).alerts = s.alerts := by
  simp only [State.lingerExpired]
  repeat' split
  all_goals simp
@[simp] theorem State.lingerExpired_params (s : State) (k : Key) : (s.lingerExpired k).params = s.params := by
  simp only [State.lingerExpired]
  repeat' split
  all_goals simp
@[simp] theorem State.lingerExpired_pending (s : State) (k : Key) : (s.lingerExpired k).pending = s.pending := by
  simp only [State.lingerExpired]
  repeat' split
  all_goals simp
@[simp] theorem State.lingerExpired_span (s : State) (k : Key) (q : Fin 4) : (s.lingerExpired k).span q = s.span q :=
  congrArg (fun v : Vector SpanUnit 4 => v[q]) (State.lingerExpired_spans s k)

/-! ## State.windowExpired -/

@[simp] theorem State.windowExpired_control (s : State) (sp : Fin 4) : (s.windowExpired sp).control = s.control := by
  simp only [State.windowExpired]
  split <;> simp
@[simp] theorem State.windowExpired_link (s : State) (sp : Fin 4) : (s.windowExpired sp).link = s.link := by
  simp only [State.windowExpired]
  split <;> simp
@[simp] theorem State.windowExpired_router (s : State) (sp : Fin 4) : (s.windowExpired sp).router = s.router := by
  simp only [State.windowExpired]
  split <;> simp
@[simp] theorem State.windowExpired_params (s : State) (sp : Fin 4) : (s.windowExpired sp).params = s.params := by
  simp only [State.windowExpired]
  split <;> simp
@[simp] theorem State.windowExpired_pending (s : State) (sp : Fin 4) : (s.windowExpired sp).pending = s.pending := by
  simp only [State.windowExpired]
  split <;> simp

/-! ## State.responseEnded -/

@[simp] theorem State.responseEnded_control (s : State) (sp : Fin 4) (chars : List LineChar) : (s.responseEnded sp chars).control = s.control := by
  simp only [State.responseEnded]
  repeat' split
  all_goals simp
@[simp] theorem State.responseEnded_link (s : State) (sp : Fin 4) (chars : List LineChar) : (s.responseEnded sp chars).link = s.link := by
  simp only [State.responseEnded]
  repeat' split
  all_goals simp
@[simp] theorem State.responseEnded_router (s : State) (sp : Fin 4) (chars : List LineChar) : (s.responseEnded sp chars).router = s.router := by
  simp only [State.responseEnded]
  repeat' split
  all_goals simp
@[simp] theorem State.responseEnded_params (s : State) (sp : Fin 4) (chars : List LineChar) : (s.responseEnded sp chars).params = s.params := by
  simp only [State.responseEnded]
  repeat' split
  all_goals simp
@[simp] theorem State.responseEnded_pending (s : State) (sp : Fin 4) (chars : List LineChar) : (s.responseEnded sp chars).pending = s.pending := by
  simp only [State.responseEnded]
  repeat' split
  all_goals simp

/-- The end of a frame that is no response is an idle line and nothing else. -/
theorem State.responseEnded_of_not_receiving {s : State} {sp : Fin 4} (chars : List LineChar)
    (h : (s.span sp).phase ≠ some .receiving) : s.responseEnded sp chars = s.updateSpan sp SpanUnit.lineIdle := by
  simp only [SpanUnit.phase] at h
  simp only [State.responseEnded]
  repeat' split
  all_goals simp_all

/-! ## State.responseOverlong -/

@[simp] theorem State.responseOverlong_control (s : State) (sp : Fin 4) : (s.responseOverlong sp).control = s.control := by
  simp only [State.responseOverlong]
  split <;> simp
@[simp] theorem State.responseOverlong_link (s : State) (sp : Fin 4) : (s.responseOverlong sp).link = s.link := by
  simp only [State.responseOverlong]
  split <;> simp
@[simp] theorem State.responseOverlong_router (s : State) (sp : Fin 4) : (s.responseOverlong sp).router = s.router := by
  simp only [State.responseOverlong]
  split <;> simp
@[simp] theorem State.responseOverlong_params (s : State) (sp : Fin 4) : (s.responseOverlong sp).params = s.params := by
  simp only [State.responseOverlong]
  split <;> simp
@[simp] theorem State.responseOverlong_pending (s : State) (sp : Fin 4) : (s.responseOverlong sp).pending = s.pending := by
  simp only [State.responseOverlong]
  split <;> simp

/-! ## State.setRoster -/

@[simp] theorem State.setRoster_control (s : State) (sp : Fin 4) (members : List Nat) : (s.setRoster sp members).control = s.control := by
  simp only [State.setRoster]
  split <;> simp
@[simp] theorem State.setRoster_link (s : State) (sp : Fin 4) (members : List Nat) : (s.setRoster sp members).link = s.link := by
  simp only [State.setRoster]
  split <;> simp
@[simp] theorem State.setRoster_router (s : State) (sp : Fin 4) (members : List Nat) : (s.setRoster sp members).router = s.router := by
  simp only [State.setRoster]
  split <;> simp
@[simp] theorem State.setRoster_notices (s : State) (sp : Fin 4) (members : List Nat) : (s.setRoster sp members).notices = s.notices := by
  simp only [State.setRoster]
  split <;> simp
@[simp] theorem State.setRoster_alerts (s : State) (sp : Fin 4) (members : List Nat) : (s.setRoster sp members).alerts = s.alerts := by
  simp only [State.setRoster]
  split <;> simp
@[simp] theorem State.setRoster_params (s : State) (sp : Fin 4) (members : List Nat) : (s.setRoster sp members).params = s.params := by
  simp only [State.setRoster]
  split <;> simp
@[simp] theorem State.setRoster_pending (s : State) (sp : Fin 4) (members : List Nat) : (s.setRoster sp members).pending = s.pending := by
  simp only [State.setRoster]
  split <;> simp

/-! ## Offers made one after another -/

theorem offers_control (sp : Fin 4) (kind : Nat) (as : List Nat) (s : State) :
    (as.foldl (fun s a => s.offer sp a kind 0) s).control = s.control := by
  induction as generalizing s with
  | nil => rfl
  | cons a rest ih => simp [ih]
theorem offers_link (sp : Fin 4) (kind : Nat) (as : List Nat) (s : State) :
    (as.foldl (fun s a => s.offer sp a kind 0) s).link = s.link := by
  induction as generalizing s with
  | nil => rfl
  | cons a rest ih => simp [ih]
theorem offers_table (sp : Fin 4) (kind : Nat) (as : List Nat) (s : State) :
    (as.foldl (fun s a => s.offer sp a kind 0) s).table = s.table := by
  induction as generalizing s with
  | nil => rfl
  | cons a rest ih => simp [ih]
theorem offers_router (sp : Fin 4) (kind : Nat) (as : List Nat) (s : State) :
    (as.foldl (fun s a => s.offer sp a kind 0) s).router = s.router := by
  induction as generalizing s with
  | nil => rfl
  | cons a rest ih => simp [ih]
theorem offers_spans (sp : Fin 4) (kind : Nat) (as : List Nat) (s : State) :
    (as.foldl (fun s a => s.offer sp a kind 0) s).spans = s.spans := by
  induction as generalizing s with
  | nil => rfl
  | cons a rest ih => simp [ih]
theorem offers_params (sp : Fin 4) (kind : Nat) (as : List Nat) (s : State) :
    (as.foldl (fun s a => s.offer sp a kind 0) s).params = s.params := by
  induction as generalizing s with
  | nil => rfl
  | cons a rest ih => simp [ih]
theorem offers_pending (sp : Fin 4) (kind : Nat) (as : List Nat) (s : State) :
    (as.foldl (fun s a => s.offer sp a kind 0) s).pending = s.pending := by
  induction as generalizing s with
  | nil => rfl
  | cons a rest ih => simp [ih]

/-! ## State.setMissLimit -/

@[simp] theorem State.setMissLimit_control (s : State) (sp : Fin 4) (limit : Nat) : (s.setMissLimit sp limit).control = s.control := by
  simp [State.setMissLimit, offers_control]
@[simp] theorem State.setMissLimit_link (s : State) (sp : Fin 4) (limit : Nat) : (s.setMissLimit sp limit).link = s.link := by
  simp [State.setMissLimit, offers_link]
@[simp] theorem State.setMissLimit_table (s : State) (sp : Fin 4) (limit : Nat) : (s.setMissLimit sp limit).table = s.table := by
  simp [State.setMissLimit, offers_table]
@[simp] theorem State.setMissLimit_router (s : State) (sp : Fin 4) (limit : Nat) : (s.setMissLimit sp limit).router = s.router := by
  simp [State.setMissLimit, offers_router]
@[simp] theorem State.setMissLimit_params (s : State) (sp : Fin 4) (limit : Nat) : (s.setMissLimit sp limit).params = s.params := by
  simp [State.setMissLimit, offers_params]
@[simp] theorem State.setMissLimit_pending (s : State) (sp : Fin 4) (limit : Nat) : (s.setMissLimit sp limit).pending = s.pending := by
  simp [State.setMissLimit, offers_pending]

/-! ## State.apply -/

@[simp] theorem State.apply_control (s : State) (c : Change) : (s.apply c).control = s.control := by
  cases c <;> simp [State.apply, State.updateParams]
@[simp] theorem State.apply_link (s : State) (c : Change) : (s.apply c).link = s.link := by
  cases c <;> simp [State.apply, State.updateParams]
@[simp] theorem State.apply_pending (s : State) (c : Change) : (s.apply c).pending = s.pending := by
  cases c <;> simp [State.apply, State.updateParams]

/-! ## State.setParameter -/

@[simp] theorem State.setParameter_control (s : State) (code index : Byte) (value : List Byte) : ((s.setParameter code index value).1).control = s.control := by
  simp only [State.setParameter]
  repeat' split
  all_goals simp
@[simp] theorem State.setParameter_link (s : State) (code index : Byte) (value : List Byte) : ((s.setParameter code index value).1).link = s.link := by
  simp only [State.setParameter]
  repeat' split
  all_goals simp
@[simp] theorem State.setParameter_pending (s : State) (code index : Byte) (value : List Byte) : ((s.setParameter code index value).1).pending = s.pending := by
  simp only [State.setParameter]
  repeat' split
  all_goals simp

/-! ## State.spanAction -/

@[simp] theorem State.spanAction_control (s : State) (sp : Fin 4) (a : SpanAction) : ((s.spanAction sp a).1).control = s.control := by
  cases a <;> simp [State.spanAction]
@[simp] theorem State.spanAction_link (s : State) (sp : Fin 4) (a : SpanAction) : ((s.spanAction sp a).1).link = s.link := by
  cases a <;> simp [State.spanAction]
@[simp] theorem State.spanAction_router (s : State) (sp : Fin 4) (a : SpanAction) : ((s.spanAction sp a).1).router = s.router := by
  cases a <;> simp [State.spanAction]
@[simp] theorem State.spanAction_notices (s : State) (sp : Fin 4) (a : SpanAction) : ((s.spanAction sp a).1).notices = s.notices := by
  cases a <;> simp [State.spanAction]
@[simp] theorem State.spanAction_params (s : State) (sp : Fin 4) (a : SpanAction) : ((s.spanAction sp a).1).params = s.params := by
  cases a <;> simp [State.spanAction]
@[simp] theorem State.spanAction_pending (s : State) (sp : Fin 4) (a : SpanAction) : ((s.spanAction sp a).1).pending = s.pending := by
  cases a <;> simp [State.spanAction]

/-! ## State.grantCredit -/

@[simp] theorem State.grantCredit_control (s : State) (grant : Nat) : ((s.grantCredit grant).1).control = s.control := by
  rfl
@[simp] theorem State.grantCredit_link (s : State) (grant : Nat) : ((s.grantCredit grant).1).link = s.link := by
  rfl
@[simp] theorem State.grantCredit_table (s : State) (grant : Nat) : ((s.grantCredit grant).1).table = s.table := by
  rfl
@[simp] theorem State.grantCredit_router (s : State) (grant : Nat) : ((s.grantCredit grant).1).router = s.router := by
  rfl
@[simp] theorem State.grantCredit_spans (s : State) (grant : Nat) : ((s.grantCredit grant).1).spans = s.spans := by
  rfl
@[simp] theorem State.grantCredit_alerts (s : State) (grant : Nat) : ((s.grantCredit grant).1).alerts = s.alerts := by
  rfl
@[simp] theorem State.grantCredit_params (s : State) (grant : Nat) : ((s.grantCredit grant).1).params = s.params := by
  rfl
@[simp] theorem State.grantCredit_pending (s : State) (grant : Nat) : ((s.grantCredit grant).1).pending = s.pending := by
  rfl
@[simp] theorem State.grantCredit_span (s : State) (grant : Nat) (q : Fin 4) : ((s.grantCredit grant).1).span q = s.span q :=
  congrArg (fun v : Vector SpanUnit 4 => v[q]) (State.grantCredit_spans s grant)

/-! ## State.startDraining -/

@[simp] theorem State.startDraining_table (s : State) : (s.startDraining).table = s.table := by
  rfl
@[simp] theorem State.startDraining_router (s : State) : (s.startDraining).router = s.router := by
  rfl
@[simp] theorem State.startDraining_spans (s : State) : (s.startDraining).spans = s.spans := by
  rfl
@[simp] theorem State.startDraining_notices (s : State) : (s.startDraining).notices = s.notices := by
  rfl
@[simp] theorem State.startDraining_alerts (s : State) : (s.startDraining).alerts = s.alerts := by
  rfl
@[simp] theorem State.startDraining_params (s : State) : (s.startDraining).params = s.params := by
  rfl
@[simp] theorem State.startDraining_pending (s : State) : (s.startDraining).pending = s.pending := by
  rfl
@[simp] theorem State.startDraining_span (s : State) (q : Fin 4) : (s.startDraining).span q = s.span q :=
  congrArg (fun v : Vector SpanUnit 4 => v[q]) (State.startDraining_spans s)

/-! ## State.act -/

@[simp] theorem State.act_pending (s : State) (o : Fin 8) (m : HostMessage) : ((s.act o m).1).pending = s.pending := by
  cases m <;> simp [State.act]

/-! ## State.fill -/

@[simp] theorem State.fill_control (s : State) (f : Frame) (r : Reply) (ofRestart : Bool) : (s.fill f r ofRestart).control = s.control := by
  rfl
@[simp] theorem State.fill_table (s : State) (f : Frame) (r : Reply) (ofRestart : Bool) : (s.fill f r ofRestart).table = s.table := by
  rfl
@[simp] theorem State.fill_router (s : State) (f : Frame) (r : Reply) (ofRestart : Bool) : (s.fill f r ofRestart).router = s.router := by
  rfl
@[simp] theorem State.fill_spans (s : State) (f : Frame) (r : Reply) (ofRestart : Bool) : (s.fill f r ofRestart).spans = s.spans := by
  rfl
@[simp] theorem State.fill_notices (s : State) (f : Frame) (r : Reply) (ofRestart : Bool) : (s.fill f r ofRestart).notices = s.notices := by
  rfl
@[simp] theorem State.fill_alerts (s : State) (f : Frame) (r : Reply) (ofRestart : Bool) : (s.fill f r ofRestart).alerts = s.alerts := by
  rfl
@[simp] theorem State.fill_params (s : State) (f : Frame) (r : Reply) (ofRestart : Bool) : (s.fill f r ofRestart).params = s.params := by
  rfl
@[simp] theorem State.fill_pending (s : State) (f : Frame) (r : Reply) (ofRestart : Bool) : (s.fill f r ofRestart).pending = s.pending := by
  rfl
@[simp] theorem State.fill_span (s : State) (f : Frame) (r : Reply) (ofRestart : Bool) (q : Fin 4) : (s.fill f r ofRestart).span q = s.span q :=
  congrArg (fun v : Vector SpanUnit 4 => v[q]) (State.fill_spans s f r ofRestart)

/-! ## State.answer -/

@[simp] theorem State.answer_pending (s : State) (f : Frame) : (s.answer f).pending = s.pending := by
  simp only [State.answer]
  split <;> simp

/-! ## State.take -/

@[simp] theorem State.take_pending (s : State) : (s.take).pending = s.pending := by
  simp only [State.take]
  split <;> simp

/-! ## State.takes -/

@[simp] theorem State.takes_pending (n : Nat) (s : State) : (State.takes n s).pending = s.pending := by
  induction n generalizing s with
  | zero => rfl
  | succ n ih => simp only [State.takes]; split <;> simp [ih]

/-! ## State.offerFrame -/

@[simp] theorem State.offerFrame_control (s : State) (f : Frame) : (s.offerFrame f).control = s.control := by
  simp only [State.offerFrame]
  split <;> simp
@[simp] theorem State.offerFrame_table (s : State) (f : Frame) : (s.offerFrame f).table = s.table := by
  simp only [State.offerFrame]
  split <;> simp
@[simp] theorem State.offerFrame_router (s : State) (f : Frame) : (s.offerFrame f).router = s.router := by
  simp only [State.offerFrame]
  split <;> simp
@[simp] theorem State.offerFrame_spans (s : State) (f : Frame) : (s.offerFrame f).spans = s.spans := by
  simp only [State.offerFrame]
  split <;> simp
@[simp] theorem State.offerFrame_notices (s : State) (f : Frame) : (s.offerFrame f).notices = s.notices := by
  simp only [State.offerFrame]
  split <;> simp
@[simp] theorem State.offerFrame_params (s : State) (f : Frame) : (s.offerFrame f).params = s.params := by
  simp only [State.offerFrame]
  split <;> simp
@[simp] theorem State.offerFrame_pending (s : State) (f : Frame) : (s.offerFrame f).pending = s.pending := by
  simp only [State.offerFrame]
  split <;> simp
@[simp] theorem State.offerFrame_span (s : State) (f : Frame) (q : Fin 4) : (s.offerFrame f).span q = s.span q :=
  congrArg (fun v : Vector SpanUnit 4 => v[q]) (State.offerFrame_spans s f)

/-! ## State.sendUnsolicited -/

@[simp] theorem State.sendUnsolicited_control (s : State) (source : Source) (kind : Byte) (fields : List Byte) : (s.sendUnsolicited source kind fields).control = s.control := by
  rfl
@[simp] theorem State.sendUnsolicited_table (s : State) (source : Source) (kind : Byte) (fields : List Byte) : (s.sendUnsolicited source kind fields).table = s.table := by
  rfl
@[simp] theorem State.sendUnsolicited_router (s : State) (source : Source) (kind : Byte) (fields : List Byte) : (s.sendUnsolicited source kind fields).router = s.router := by
  rfl
@[simp] theorem State.sendUnsolicited_spans (s : State) (source : Source) (kind : Byte) (fields : List Byte) : (s.sendUnsolicited source kind fields).spans = s.spans := by
  rfl
@[simp] theorem State.sendUnsolicited_notices (s : State) (source : Source) (kind : Byte) (fields : List Byte) : (s.sendUnsolicited source kind fields).notices = s.notices := by
  rfl
@[simp] theorem State.sendUnsolicited_alerts (s : State) (source : Source) (kind : Byte) (fields : List Byte) : (s.sendUnsolicited source kind fields).alerts = s.alerts := by
  rfl
@[simp] theorem State.sendUnsolicited_params (s : State) (source : Source) (kind : Byte) (fields : List Byte) : (s.sendUnsolicited source kind fields).params = s.params := by
  rfl
@[simp] theorem State.sendUnsolicited_pending (s : State) (source : Source) (kind : Byte) (fields : List Byte) : (s.sendUnsolicited source kind fields).pending = s.pending := by
  rfl
@[simp] theorem State.sendUnsolicited_span (s : State) (source : Source) (kind : Byte) (fields : List Byte) (q : Fin 4) : (s.sendUnsolicited source kind fields).span q = s.span q :=
  congrArg (fun v : Vector SpanUnit 4 => v[q]) (State.sendUnsolicited_spans s source kind fields)

/-! ## State.takeAlert -/

@[simp] theorem State.takeAlert_control (s : State) : (s.takeAlert).control = s.control := by
  rfl
@[simp] theorem State.takeAlert_table (s : State) : (s.takeAlert).table = s.table := by
  rfl
@[simp] theorem State.takeAlert_router (s : State) : (s.takeAlert).router = s.router := by
  rfl
@[simp] theorem State.takeAlert_spans (s : State) : (s.takeAlert).spans = s.spans := by
  rfl
@[simp] theorem State.takeAlert_notices (s : State) : (s.takeAlert).notices = s.notices := by
  rfl
@[simp] theorem State.takeAlert_params (s : State) : (s.takeAlert).params = s.params := by
  rfl
@[simp] theorem State.takeAlert_pending (s : State) : (s.takeAlert).pending = s.pending := by
  rfl
@[simp] theorem State.takeAlert_span (s : State) (q : Fin 4) : (s.takeAlert).span q = s.span q :=
  congrArg (fun v : Vector SpanUnit 4 => v[q]) (State.takeAlert_spans s)

/-! ## State.takeNotice -/

@[simp] theorem State.takeNotice_control (s : State) (n : Notice) (rest : List Notice) : (s.takeNotice n rest).control = s.control := by
  rfl
@[simp] theorem State.takeNotice_table (s : State) (n : Notice) (rest : List Notice) : (s.takeNotice n rest).table = s.table := by
  rfl
@[simp] theorem State.takeNotice_router (s : State) (n : Notice) (rest : List Notice) : (s.takeNotice n rest).router = s.router := by
  rfl
@[simp] theorem State.takeNotice_spans (s : State) (n : Notice) (rest : List Notice) : (s.takeNotice n rest).spans = s.spans := by
  rfl
@[simp] theorem State.takeNotice_alerts (s : State) (n : Notice) (rest : List Notice) : (s.takeNotice n rest).alerts = s.alerts := by
  rfl
@[simp] theorem State.takeNotice_params (s : State) (n : Notice) (rest : List Notice) : (s.takeNotice n rest).params = s.params := by
  rfl
@[simp] theorem State.takeNotice_pending (s : State) (n : Notice) (rest : List Notice) : (s.takeNotice n rest).pending = s.pending := by
  rfl
@[simp] theorem State.takeNotice_span (s : State) (n : Notice) (rest : List Notice) (q : Fin 4) : (s.takeNotice n rest).span q = s.span q :=
  congrArg (fun v : Vector SpanUnit 4 => v[q]) (State.takeNotice_spans s n rest)

/-! ## State.takeUnsolicited -/

@[simp] theorem State.takeUnsolicited_control (s : State) : (s.takeUnsolicited).control = s.control := by
  simp only [State.takeUnsolicited]
  repeat' split
  all_goals simp
@[simp] theorem State.takeUnsolicited_table (s : State) : (s.takeUnsolicited).table = s.table := by
  simp only [State.takeUnsolicited]
  repeat' split
  all_goals simp
@[simp] theorem State.takeUnsolicited_router (s : State) : (s.takeUnsolicited).router = s.router := by
  simp only [State.takeUnsolicited]
  repeat' split
  all_goals simp
@[simp] theorem State.takeUnsolicited_spans (s : State) : (s.takeUnsolicited).spans = s.spans := by
  simp only [State.takeUnsolicited]
  repeat' split
  all_goals simp
@[simp] theorem State.takeUnsolicited_params (s : State) : (s.takeUnsolicited).params = s.params := by
  simp only [State.takeUnsolicited]
  repeat' split
  all_goals simp
@[simp] theorem State.takeUnsolicited_pending (s : State) : (s.takeUnsolicited).pending = s.pending := by
  simp only [State.takeUnsolicited]
  repeat' split
  all_goals simp
@[simp] theorem State.takeUnsolicited_span (s : State) (q : Fin 4) : (s.takeUnsolicited).span q = s.span q :=
  congrArg (fun v : Vector SpanUnit 4 => v[q]) (State.takeUnsolicited_spans s)

/-- What a take of a reply leaves alone: every block but the Link Interface. -/
theorem State.takeReply_frame {s t : State} (h : s.takeReply = some t) : ∃ l, t = s.setLink l := by
  simp only [State.takeReply, Option.map_eq_some_iff] at h
  obtain ⟨⟨sl, replies⟩, -, rfl⟩ := h
  exact ⟨_, rfl⟩

/-- The transmitter's choice says once what it can do: nothing, a reply, an ALERT or a NOTICE. -/
theorem State.choose_cases (s : State) :
    s.choose = s ∨ (∃ l, s.choose = s.setLink l) ∨ s.choose = s.takeAlert ∨
      ∃ n rest, s.notices.entries = n :: rest ∧ 1 ≤ s.notices.credit ∧ s.choose = s.takeNotice n rest := by
  simp only [State.choose]
  split
  · exact .inl rfl
  · split
    · cases h : s.takeReply with
      | some t =>
        obtain ⟨l, rfl⟩ := State.takeReply_frame h
        exact .inr (.inl ⟨l, rfl⟩)
      | none =>
        simp only [Option.getD_none, State.takeUnsolicited]
        split
        · exact .inr (.inr (.inl rfl))
        · split
          · exact .inl rfl
          · next n rest hq =>
            split
            · next hc => exact .inr (.inr (.inr ⟨n, rest, hq, hc, rfl⟩))
            · exact .inl rfl
    · cases h : s.takeReply with
      | some t =>
        obtain ⟨l, rfl⟩ := State.takeReply_frame h
        exact .inr (.inl ⟨l, rfl⟩)
      | none => exact .inl rfl
    · exact .inl rfl
    · exact .inl rfl

/-! ## State.choose -/

@[simp] theorem State.choose_control (s : State) : (s.choose).control = s.control := by
  rcases s.choose_cases with h | ⟨l, h⟩ | h | ⟨n, rest, -, -, h⟩ <;> rw [h] <;> simp
@[simp] theorem State.choose_table (s : State) : (s.choose).table = s.table := by
  rcases s.choose_cases with h | ⟨l, h⟩ | h | ⟨n, rest, -, -, h⟩ <;> rw [h] <;> simp
@[simp] theorem State.choose_router (s : State) : (s.choose).router = s.router := by
  rcases s.choose_cases with h | ⟨l, h⟩ | h | ⟨n, rest, -, -, h⟩ <;> rw [h] <;> simp
@[simp] theorem State.choose_spans (s : State) : (s.choose).spans = s.spans := by
  rcases s.choose_cases with h | ⟨l, h⟩ | h | ⟨n, rest, -, -, h⟩ <;> rw [h] <;> simp
@[simp] theorem State.choose_params (s : State) : (s.choose).params = s.params := by
  rcases s.choose_cases with h | ⟨l, h⟩ | h | ⟨n, rest, -, -, h⟩ <;> rw [h] <;> simp
@[simp] theorem State.choose_pending (s : State) : (s.choose).pending = s.pending := by
  rcases s.choose_cases with h | ⟨l, h⟩ | h | ⟨n, rest, -, -, h⟩ <;> rw [h] <;> simp
@[simp] theorem State.choose_span (s : State) (q : Fin 4) : (s.choose).span q = s.span q :=
  congrArg (fun v : Vector SpanUnit 4 => v[q]) (State.choose_spans s)

/-! ## State.serve -/

@[simp] theorem State.serve_pending (s : State) : (s.serve).pending = s.pending := by
  simp [State.serve]

/-! ## State.frameFailed -/

@[simp] theorem State.frameFailed_control (s : State) : (s.frameFailed).control = s.control := by
  rfl
@[simp] theorem State.frameFailed_table (s : State) : (s.frameFailed).table = s.table := by
  rfl
@[simp] theorem State.frameFailed_router (s : State) : (s.frameFailed).router = s.router := by
  rfl
@[simp] theorem State.frameFailed_spans (s : State) : (s.frameFailed).spans = s.spans := by
  rfl
@[simp] theorem State.frameFailed_notices (s : State) : (s.frameFailed).notices = s.notices := by
  rfl
@[simp] theorem State.frameFailed_params (s : State) : (s.frameFailed).params = s.params := by
  rfl
@[simp] theorem State.frameFailed_pending (s : State) : (s.frameFailed).pending = s.pending := by
  rfl
@[simp] theorem State.frameFailed_span (s : State) (q : Fin 4) : (s.frameFailed).span q = s.span q :=
  congrArg (fun v : Vector SpanUnit 4 => v[q]) (State.frameFailed_spans s)

/-! ## State.judged -/

@[simp] theorem State.judged_pending (s : State) (j : Judged) : (s.judged j).pending = s.pending := by
  simp only [State.judged]
  repeat' split
  all_goals simp

theorem judgements_pending (js : List Judged) (s : State) : (js.foldl State.judged s).pending = s.pending := by
  induction js generalizing s with
  | nil => rfl
  | cons j rest ih => simp [ih]

/-! ## State.receiverEvent -/

@[simp] theorem State.receiverEvent_pending (s : State) (gap : Bool) (bytes : List Byte) : (s.receiverEvent gap bytes).pending = s.pending := by
  simp [State.receiverEvent, judgements_pending]

/-! ## State.receive -/

@[simp] theorem State.receive_pending (s : State) (bytes : List Byte) : (s.receive bytes).pending = s.pending := by
  simp only [State.receive]
  split <;> simp

/-! ## State.gapExceeded -/

@[simp] theorem State.gapExceeded_pending (s : State) : (s.gapExceeded).pending = s.pending := by
  simp only [State.gapExceeded]
  repeat' split
  all_goals simp

/-! ## State.message -/

@[simp] theorem State.message_pending (s : State) (f : Frame) : (s.message f).pending = s.pending := by
  simp [State.message]

/-! ## State.takeReady -/

@[simp] theorem State.takeReady_control (s : State) (cause : ReadyCause) (begun : Bool) : (s.takeReady cause begun).control = s.control := by
  rfl
@[simp] theorem State.takeReady_table (s : State) (cause : ReadyCause) (begun : Bool) : (s.takeReady cause begun).table = s.table := by
  rfl
@[simp] theorem State.takeReady_router (s : State) (cause : ReadyCause) (begun : Bool) : (s.takeReady cause begun).router = s.router := by
  rfl
@[simp] theorem State.takeReady_spans (s : State) (cause : ReadyCause) (begun : Bool) : (s.takeReady cause begun).spans = s.spans := by
  rfl
@[simp] theorem State.takeReady_notices (s : State) (cause : ReadyCause) (begun : Bool) : (s.takeReady cause begun).notices = s.notices := by
  rfl
@[simp] theorem State.takeReady_alerts (s : State) (cause : ReadyCause) (begun : Bool) : (s.takeReady cause begun).alerts = s.alerts := by
  rfl
@[simp] theorem State.takeReady_params (s : State) (cause : ReadyCause) (begun : Bool) : (s.takeReady cause begun).params = s.params := by
  rfl
@[simp] theorem State.takeReady_pending (s : State) (cause : ReadyCause) (begun : Bool) : (s.takeReady cause begun).pending = s.pending := by
  rfl
@[simp] theorem State.takeReady_span (s : State) (cause : ReadyCause) (begun : Bool) (q : Fin 4) : (s.takeReady cause begun).span q = s.span q :=
  congrArg (fun v : Vector SpanUnit 4 => v[q]) (State.takeReady_spans s cause begun)

/-! ## State.leaveHeld -/

@[simp] theorem State.leaveHeld_table (s : State) (p : Straps) : (s.leaveHeld p).table = s.table := by
  simp only [State.leaveHeld]
  split <;> simp
@[simp] theorem State.leaveHeld_router (s : State) (p : Straps) : (s.leaveHeld p).router = s.router := by
  simp only [State.leaveHeld]
  split <;> simp
@[simp] theorem State.leaveHeld_spans (s : State) (p : Straps) : (s.leaveHeld p).spans = s.spans := by
  simp only [State.leaveHeld]
  split <;> simp
@[simp] theorem State.leaveHeld_notices (s : State) (p : Straps) : (s.leaveHeld p).notices = s.notices := by
  simp only [State.leaveHeld]
  split <;> simp
@[simp] theorem State.leaveHeld_alerts (s : State) (p : Straps) : (s.leaveHeld p).alerts = s.alerts := by
  simp only [State.leaveHeld]
  split <;> simp
@[simp] theorem State.leaveHeld_params (s : State) (p : Straps) : (s.leaveHeld p).params = s.params := by
  simp only [State.leaveHeld]
  split <;> simp
@[simp] theorem State.leaveHeld_pending (s : State) (p : Straps) : (s.leaveHeld p).pending = s.pending := by
  simp only [State.leaveHeld]
  split <;> simp
@[simp] theorem State.leaveHeld_span (s : State) (p : Straps) (q : Fin 4) : (s.leaveHeld p).span q = s.span q :=
  congrArg (fun v : Vector SpanUnit 4 => v[q]) (State.leaveHeld_spans s p)

/-! ## State.startUpEnded -/

@[simp] theorem State.startUpEnded_table (s : State) (p : Straps) : (s.startUpEnded p).table = s.table := by
  simp only [State.startUpEnded]
  split <;> simp
@[simp] theorem State.startUpEnded_router (s : State) (p : Straps) : (s.startUpEnded p).router = s.router := by
  simp only [State.startUpEnded]
  split <;> simp
@[simp] theorem State.startUpEnded_spans (s : State) (p : Straps) : (s.startUpEnded p).spans = s.spans := by
  simp only [State.startUpEnded]
  split <;> simp
@[simp] theorem State.startUpEnded_notices (s : State) (p : Straps) : (s.startUpEnded p).notices = s.notices := by
  simp only [State.startUpEnded]
  split <;> simp
@[simp] theorem State.startUpEnded_alerts (s : State) (p : Straps) : (s.startUpEnded p).alerts = s.alerts := by
  simp only [State.startUpEnded]
  split <;> simp
@[simp] theorem State.startUpEnded_params (s : State) (p : Straps) : (s.startUpEnded p).params = s.params := by
  simp only [State.startUpEnded]
  split <;> simp
@[simp] theorem State.startUpEnded_pending (s : State) (p : Straps) : (s.startUpEnded p).pending = s.pending := by
  simp only [State.startUpEnded]
  split <;> simp
@[simp] theorem State.startUpEnded_span (s : State) (p : Straps) (q : Fin 4) : (s.startUpEnded p).span q = s.span q :=
  congrArg (fun v : Vector SpanUnit 4 => v[q]) (State.startUpEnded_spans s p)

/-! ## State.rstnHigh -/

@[simp] theorem State.rstnHigh_table (s : State) (p : Straps) : (s.rstnHigh p).table = s.table := by
  simp only [State.rstnHigh]
  split <;> simp
@[simp] theorem State.rstnHigh_router (s : State) (p : Straps) : (s.rstnHigh p).router = s.router := by
  simp only [State.rstnHigh]
  split <;> simp
@[simp] theorem State.rstnHigh_spans (s : State) (p : Straps) : (s.rstnHigh p).spans = s.spans := by
  simp only [State.rstnHigh]
  split <;> simp
@[simp] theorem State.rstnHigh_notices (s : State) (p : Straps) : (s.rstnHigh p).notices = s.notices := by
  simp only [State.rstnHigh]
  split <;> simp
@[simp] theorem State.rstnHigh_alerts (s : State) (p : Straps) : (s.rstnHigh p).alerts = s.alerts := by
  simp only [State.rstnHigh]
  split <;> simp
@[simp] theorem State.rstnHigh_params (s : State) (p : Straps) : (s.rstnHigh p).params = s.params := by
  simp only [State.rstnHigh]
  split <;> simp
@[simp] theorem State.rstnHigh_pending (s : State) (p : Straps) : (s.rstnHigh p).pending = s.pending := by
  simp only [State.rstnHigh]
  split <;> simp
@[simp] theorem State.rstnHigh_span (s : State) (p : Straps) (q : Fin 4) : (s.rstnHigh p).span q = s.span q :=
  congrArg (fun v : Vector SpanUnit 4 => v[q]) (State.rstnHigh_spans s p)

/-! ## State.readyBegins -/

@[simp] theorem State.readyBegins_table (s : State) : (s.readyBegins).table = s.table := by
  simp only [State.readyBegins]
  split <;> simp
@[simp] theorem State.readyBegins_router (s : State) : (s.readyBegins).router = s.router := by
  simp only [State.readyBegins]
  split <;> simp
@[simp] theorem State.readyBegins_spans (s : State) : (s.readyBegins).spans = s.spans := by
  simp only [State.readyBegins]
  split <;> simp
@[simp] theorem State.readyBegins_notices (s : State) : (s.readyBegins).notices = s.notices := by
  simp only [State.readyBegins]
  split <;> simp
@[simp] theorem State.readyBegins_alerts (s : State) : (s.readyBegins).alerts = s.alerts := by
  simp only [State.readyBegins]
  split <;> simp
@[simp] theorem State.readyBegins_params (s : State) : (s.readyBegins).params = s.params := by
  simp only [State.readyBegins]
  split <;> simp
@[simp] theorem State.readyBegins_pending (s : State) : (s.readyBegins).pending = s.pending := by
  simp only [State.readyBegins]
  split <;> simp
@[simp] theorem State.readyBegins_span (s : State) (q : Fin 4) : (s.readyBegins).span q = s.span q :=
  congrArg (fun v : Vector SpanUnit 4 => v[q]) (State.readyBegins_spans s)

/-! ## State.freeSlot -/

@[simp] theorem State.freeSlot_control (s : State) : (s.freeSlot).control = s.control := by
  rfl
@[simp] theorem State.freeSlot_table (s : State) : (s.freeSlot).table = s.table := by
  rfl
@[simp] theorem State.freeSlot_router (s : State) : (s.freeSlot).router = s.router := by
  rfl
@[simp] theorem State.freeSlot_spans (s : State) : (s.freeSlot).spans = s.spans := by
  rfl
@[simp] theorem State.freeSlot_notices (s : State) : (s.freeSlot).notices = s.notices := by
  rfl
@[simp] theorem State.freeSlot_alerts (s : State) : (s.freeSlot).alerts = s.alerts := by
  rfl
@[simp] theorem State.freeSlot_params (s : State) : (s.freeSlot).params = s.params := by
  rfl
@[simp] theorem State.freeSlot_pending (s : State) : (s.freeSlot).pending = s.pending := by
  rfl
@[simp] theorem State.freeSlot_span (s : State) (q : Fin 4) : (s.freeSlot).span q = s.span q :=
  congrArg (fun v : Vector SpanUnit 4 => v[q]) (State.freeSlot_spans s)

@[simp] theorem State.restartEvent_pending (s : State) : s.restartEvent.pending = s.pending := rfl

/-! ## State.txFrameEnded -/

@[simp] theorem State.txFrameEnded_pending (s : State) : (s.txFrameEnded).pending = s.pending := by
  simp only [State.txFrameEnded]
  repeat' split
  all_goals simp

end Sys2Proof.Machine
end

