-- ==== Sys2Proof/Laws/Link.lean ====
section
/-! SUPPORT. What the Host Link's shared operations do, each said once: takes, the transmitter's choice, a message when the relay is
ready for it, and the bodies of well-formed messages. -/

namespace Sys2Proof.Machine

set_option Elab.async false -- one proof after another: the threads of many at once would fill the memory

/-! ## Takes -/

/-- No frame is taken from an empty Intake Queue. -/
theorem State.takes_of_empty (n : Nat) {s : State} (h : s.link.intake = []) : State.takes n s = s := by
  cases n with
  | zero => rfl
  | succ n => simp [State.takes, State.canTake, h]

/-- No frame is taken while the Reply Queue is full. -/
theorem State.takes_of_full (n : Nat) {s : State} (h : 8 ≤ s.link.replies.length) : State.takes n s = s := by
  cases n with
  | zero => rfl
  | succ n =>
    have : ¬ s.link.replies.length < 8 := by omega
    simp [State.takes, State.canTake, Config.replyCapacity, this]

/-- No frame is taken outside SERVING. -/
theorem State.takes_of_not_serving (n : Nat) {s : State} (h : s.control.state ≠ .serving) : State.takes n s = s := by
  cases n with
  | zero => rfl
  | succ n => simp [State.takes, State.canTake, h]

/-- In a state whose queues are sound no take is possible, and `serve` is the transmitter's choice alone. -/
theorem State.serve_of_sound {s : State} (h : QueuesSound s) : s.serve = s.choose := by
  simp only [State.serve]
  by_cases hi : s.link.intake = []
  · rw [State.takes_of_empty _ hi]
  · rw [State.takes_of_full _ (Nat.le_of_eq (h.2.2.1 hi).2.symm)]

/-- `serve` on an empty Intake Queue is the transmitter's choice alone. -/
theorem State.serve_of_empty {s : State} (h : s.link.intake = []) : s.serve = s.choose := by
  simp only [State.serve, State.takes_of_empty _ h]

/-! ## The transmitter's choice -/

theorem State.choose_of_sending {s : State} {source : Source} {bytes : List Byte}
    (h : s.link.transmitter = .sending source bytes) : s.choose = s := by
  simp [State.choose, h]

/-- In a state whose transmitter is sound there is nothing to choose. -/
theorem State.choose_of_sound {s : State} (h : TransmitterSound s) : s.choose = s := by
  simp only [State.choose]
  split
  · rfl
  · next hi =>
    obtain ⟨hd, hs⟩ := h hi
    split
    · next hc =>
      obtain ⟨hr, ha, hn⟩ := hs hc
      simp only [State.takeReply, hr, oldestFilled, Option.map_none, Option.getD_none, State.takeUnsolicited, ha]
      rcases hn with hn | hn
      · cases hq : s.notices.entries <;> simp [hn]
      · simp [hn]
    · next hc => exact absurd hc hd
    · rfl
    · rfl

/-- The oldest FILLED reply of a queue with no SENDING slot is its head. -/
theorem oldestFilled_cons {sl : Slot} (h : sl.sending = false) (rest : List Slot) :
    oldestFilled (sl :: rest) = some (sl, { sl with sending := true } :: rest) := by
  simp [oldestFilled, h]

/-- The choice sees the link, the control state, the alerts and the notices alone. -/
theorem TransmitterSound.congr {s t : State} (h : TransmitterSound s) (hl : t.link = s.link) (hc : t.control = s.control)
    (ha : t.alerts = s.alerts) (hn : t.notices = s.notices) : TransmitterSound t := by
  simpa only [TransmitterSound, hl, hc, ha, hn] using h

/-! ## Layouts -/

/-- A frame is laid out as Table 10-8 gives. -/
theorem frameBytes_eq_layout (body : List Byte) : frameBytes body = frameLayout body := by
  have h (w : Word16) : bytes16 w = [byteOf (w.toNat / 256), byteOf w.toNat] := by
    simp only [bytes16, highByte, lowByte, byteOf, List.cons.injEq, and_true, true_and]
    apply BitVec.eq_of_toNat_eq
    simp
  simp [frameBytes, frameLayout, Config.syncByte, h]

/-- A reply's frame is laid out as Tables 10-8, 10-10 and 10-11 give. -/
theorem Slot.bytes_eq_layout (sl : Slot) : sl.bytes = frameLayout (replyLayout sl) := by
  obtain ⟨seq, orig, reply, r, f⟩ := sl
  rw [Slot.bytes, frameBytes_eq_layout]
  congr 1
  cases reply with
  | completion outcome code attempts replay data => cases outcome <;> rfl
  | retryLater reason => cases reason <;> rfl
  | refused reason => cases reason <;> rfl
  | _ => rfl

/-- A condition record is laid out as Table 10-13 gives. -/
theorem conditionRecord_eq_layout (n : Fin 10) (c : Condition) : conditionRecord n c = conditionLayout (byteOf n) c := by
  obtain ⟨set, enable, count, cause⟩ := c
  rcases cause with _ | (_ | _ | _ | _ | ⟨sp, node, o, unit, item⟩) <;> try rfl
  have := unit.isLt
  have h : unit.val % 65536 = unit.val := Nat.mod_eq_of_lt (by omega)
  simp only [conditionRecord, conditionLayout, Option.getD_some, FirstCause.bytes, bytesOf16, bytes16, highByte, lowByte, byteOf,
    BitVec.toNat_ofNat, h]
  have h2 : BitVec.ofNat 8 (unit.val % 256) = BitVec.ofNat 8 unit.val := by
    apply BitVec.eq_of_toNat_eq; simp
  simp [h2]

/-- The alert set is laid out as Tables 10-10, 10-12 and 10-13 give. -/
theorem AlertUnit.records_eq_layout (a : AlertUnit) : a.records = alertLayout a := by
  have hl : a.conditions.toList = conditionNumbers.map a.condition := by
    obtain ⟨⟨⟨cs⟩, hs⟩, -⟩ := a
    simp only [List.size_toArray] at hs
    rcases cs with _ | ⟨c0, _ | ⟨c1, _ | ⟨c2, _ | ⟨c3, _ | ⟨c4, _ | ⟨c5, _ | ⟨c6, _ | ⟨c7, _ | ⟨c8, _ | ⟨c9, _ | _⟩⟩⟩⟩⟩⟩⟩⟩⟩⟩ <;>
      simp_all [conditionNumbers, AlertUnit.condition]
  have hr (ns : List (Fin 10)) :
      (ns.filter fun n => (a.condition n).set).flatMap (fun n => conditionRecord n (a.condition n)) =
        ns.flatMap fun n => if a.conditions[n].set then conditionLayout (byteOf n) a.conditions[n] else [] := by
    induction ns with
    | nil => rfl
    | cons n ns ih =>
      simp only [List.filter_cons, List.flatMap_cons, ← ih]
      by_cases h : (a.condition n).set <;> simp_all [AlertUnit.condition, conditionRecord_eq_layout]
  have hc : (conditionNumbers.filter fun n => (a.condition n).set).length = a.conditions.toList.countP fun c => c.set := by
    rw [hl, List.countP_map, List.countP_eq_length_filter]; rfl
  simp only [AlertUnit.records, AlertUnit.setNumbers, alertLayout, hr, hc]
  simp [conditionNumbers]

/-! ## A message when the relay is ready -/

/-- `LinkSound` leaves of `Ready` only SERVING and a free slot to ask for. -/
theorem ready_of_linkSound {s : State} (h : LinkSound s) (hc : s.control.state = .serving) (hr : s.link.replies.length < 8) :
    Ready s := by
  obtain ⟨-, hq, ht, -⟩ := h
  refine ⟨hc, ?_, hr, fun hi => ((ht hi).2 hc).1⟩
  by_cases hi : s.link.intake = []
  · exact hi
  · have := (hq.2.2.1 hi).2
    omega

/-- A reply that fills a slot is sent at once by an idle transmitter with no other reply to send. -/
theorem State.fill_choose {s : State} {f : Frame} {r : Reply} {b : Bool}
    (hc : s.control.state = .serving ∨ s.control.state = .draining) (hi : s.link.transmitter = .idle → s.link.replies = []) :
    (s.fill f r b).choose =
      s.replied { sequence := f.sequence, originator := f.originator, reply := r, ofRestart := b, sending := false } := by
  cases ht : s.link.transmitter with
  | sending source bytes =>
    rw [State.choose_of_sending (source := source) (bytes := bytes) (by simp [State.fill, ht])]
    simp [State.fill, State.replied, ht]
  | idle =>
    have hr := hi ht
    rcases hc with hc | hc <;>
      simp [State.choose, State.fill, State.replied, ht, hc, hr, State.takeReply, oldestFilled, Slot.bytes_eq_layout, replyLayout]

/-- What a good frame does when the relay is ready for it: it is taken, answered, and the transmitter chooses. -/
theorem State.message_of_ready {s : State} (h : Ready s) (f : Frame) : s.message f = (s.answer f).choose := by
  obtain ⟨hc, hi, hr, -⟩ := h
  have hl : ({ s.link with intake := [] } : LinkInterface) = s.link := by rw [← hi]
  simp [State.message, State.judged, hc, State.offerFrame, hi, Config.intakeCapacity, State.serve, State.takes, State.canTake, hr,
    Config.replyCapacity, State.take, hl]

/-- A message that fails the envelope checks is answered MALFORMED. -/
theorem State.message_malformed {s : State} (h : Ready s) {f : Frame} (hm : f.message = none) :
    s.message f = s.replied (replyTo f.sequence f.originator (.refused .malformed)) := by
  rw [State.message_of_ready h]
  simp only [State.answer, hm]
  exact State.fill_choose (.inl h.1) h.2.2.2

/-- An owner's act leaves the Host Link and the control state alone, RESTART apart. -/
theorem State.act_link {s : State} {o : Fin 8} {m : HostMessage} (h : m ≠ .restart) :
    (s.act o m).1.link = s.link ∧ (s.act o m).1.control = s.control := by
  cases m <;> simp_all [State.act]

/-- A message that passes the envelope checks is answered by its owner. -/
theorem State.message_answered {s : State} (h : Ready s) {f : Frame} {o : Fin 8} {m : HostMessage}
    (hm : f.message = some (o, m)) (hr : m ≠ .restart) :
    s.message f = (s.act o m).1.replied (replyTo f.sequence f.originator (s.act o m).2) := by
  rw [State.message_of_ready h]
  obtain ⟨hl, hc⟩ := State.act_link (s := s) (o := o) hr
  have hb : (m == HostMessage.restart) = false := by simp [hr]
  simp only [State.answer, hm, hb]
  exact State.fill_choose (.inl (by rw [hc]; exact h.1)) (by rw [hl]; exact h.2.2.2)

/-- A RESTART: DRAINING, and its DONE at the tail of the Reply Queue. -/
theorem State.message_restart {s : State} (h : Ready s) {f : Frame} {o : Fin 8} (hm : f.message = some (o, .restart)) :
    s.message f = s.startDraining.replied { replyTo f.sequence f.originator (.done 0) with ofRestart := true } := by
  rw [State.message_of_ready h]
  simp only [State.answer, hm, State.act]
  exact State.fill_choose (.inr rfl) h.2.2.2

/-! ## Bytes and numbers -/

@[simp] theorem toNat_byteOf (n : Nat) : (byteOf n).toNat = n % 256 := by simp [byteOf]

theorem toNat_byteOf_of_lt {n : Nat} (h : n < 256) : (byteOf n).toNat = n := by simp [Nat.mod_eq_of_lt h]

/-- A number below n ≤ 256 is read back from its byte. -/
theorem index?_byteOf {n : Nat} (h : n ≤ 256) (i : Fin n) : index? n (byteOf i) = some i := by
  have hi : i.val % 256 = i.val := Nat.mod_eq_of_lt (by omega)
  simp [index?, hi]

theorem index?_eq_none {n : Nat} {b : Byte} : index? n b = none ↔ n ≤ b.toNat := by
  simp [index?]

/-- The number that the two bytes of a word carry is the word. -/
theorem number16_word (w : Word16) : number16 (highByte w) (lowByte w) = w.toNat := by
  have := w.isLt
  simp [number16, highByte, lowByte]
  omega

/-- A unit number is read back from its two bytes. -/
theorem unit?_word {w : Word16} (h : w.toNat < 4096) : unit? (highByte w) (lowByte w) = some ⟨w.toNat, h⟩ := by
  simp [unit?, number16_word, h]

theorem unit?_eq_none {w : Word16} (h : 4096 ≤ w.toNat) : unit? (highByte w) (lowByte w) = none := by
  simp [unit?, number16_word]; omega

/-- A key's unit number fits its word. -/
theorem toNat_unit (u : Fin 4096) : (BitVec.ofNat 16 u.val).toNat = u.val := by
  have := u.isLt
  simp; omega

theorem unit?_ofNat (u : Fin 4096) :
    unit? (highByte (BitVec.ofNat 16 u.val)) (lowByte (BitVec.ofNat 16 u.val)) = some u := by
  rw [unit?_word (by rw [toNat_unit]; exact u.isLt)]
  exact congrArg some (Fin.ext (toNat_unit u))

theorem lengthOk_byteOf {n : Nat} (h1 : 1 ≤ n) (h2 : n ≤ 32) : lengthOk (byteOf n) = true := by
  have : n % 256 = n := Nat.mod_eq_of_lt (by omega)
  simp [lengthOk, this, h1, h2]

/-! ## The bodies of well-formed messages -/

/-- A message's originator is read from its byte. -/
theorem Frame.message_eq (kind seq : Byte) (o : Fin 8) (fields : List Byte) :
    (frame kind seq (byteOf o) fields).message =
      (match kind.toNat with
        | 1 => parseRead o fields
        | 2 => parseWrite o fields
        | 3 => parsePost fields
        | 4 => parseCancel o fields
        | 5 => parseSpan fields
        | 6 => parseSet fields
        | 7 => parseGet fields
        | 8 => parseClear fields
        | 9 => parseCredit fields
        | 10 => parseRestart fields
        | _ => none).map fun m => (o, m) := by
  simp only [Frame.message, frame, index?_byteOf (by decide : 8 ≤ 256) o] <;> rfl

/-- An originator above 7 is MALFORMED. -/
theorem Frame.message_originator {f : Frame} (h : 8 ≤ f.originator.toNat) : f.message = none := by
  simp only [Frame.message, index?_eq_none.mpr h]

/-- Unit, item, length and data are read back from their bytes. -/
theorem readWriteFields_eq (u : Fin 4096) (item : Byte) {data : List Byte} (h1 : 1 ≤ data.length) (h2 : data.length ≤ 32) :
    readWriteFields (bytes16 (BitVec.ofNat 16 u.val) ++ [item, byteOf data.length] ++ data) =
      some (u, item, data.length, data) := by
  have hm : data.length % 256 = data.length := Nat.mod_eq_of_lt (by omega)
  simp [readWriteFields, bytes16, unit?_ofNat, lengthOk_byteOf h1 h2, hm]

theorem readReadFields_eq (u : Fin 4096) (item : Byte) {n : Nat} (h1 : 1 ≤ n) (h2 : n ≤ 32) :
    readReadFields (highByte (BitVec.ofNat 16 u.val)) (lowByte (BitVec.ofNat 16 u.val)) item (byteOf n) = some (u, item, n) := by
  have hm : n % 256 = n := Nat.mod_eq_of_lt (by omega)
  simp [readReadFields, unit?_ofNat, lengthOk_byteOf h1 h2, hm]

/-- The parts of a well-formed key (R4). -/
theorem Key.wellFormed_iff {k : Key} :
    k.wellFormed = true ↔
      1 ≤ k.length ∧ k.length ≤ 32 ∧ (k.operation = .read → k.data = []) ∧ (k.operation = .write → k.data.length = k.length) := by
  cases ho : k.operation <;> simp [Key.wellFormed, ho, and_assoc]

/-- The READ or WRITE of a key hands the key to the Transaction Table. -/
theorem exec_requestCommand {s : State} (hs : Ready s) {k : Key} (hk : k.wellFormed = true) (seq : Byte) (flag : Bool) :
    exec (requestCommand seq k flag) s = .next
      ((s.request k (flag && k.operation == .read)).1.replied
        (replyTo seq (byteOf k.originator) (s.request k (flag && k.operation == .read)).2)) := by
  obtain ⟨h1, h2, hr, hw⟩ := Key.wellFormed_iff.mp hk
  obtain ⟨o, u, op, item, n, data⟩ := k
  cases op with
  | read =>
    obtain rfl : data = [] := hr rfl
    simp only [requestCommand, exec, execRead]
    rw [State.message_answered hs (o := o) (m := .request ⟨o, u, .read, item, n, []⟩ flag) ?_ (by simp)]
    · simp [State.act, frame]
    · rw [Frame.message_eq]
      cases flag <;> simp [parseRead, bytes16, readReadFields_eq u item h1 h2]
  | write =>
    obtain rfl : data.length = n := hw rfl
    have hf : (flag && Operation.write == Operation.read) = false := by cases flag <;> rfl
    simp only [hf]
    simp only [requestCommand, exec, execWrite]
    rw [State.message_answered hs (o := o) (m := .request ⟨o, u, .write, item, data.length, data⟩ false) ?_ (by simp)]
    · simp [State.act, frame]
    · rw [Frame.message_eq]
      simp only [BitVec.reduceToNat, parseWrite, readWriteFields_eq u item h1 h2, Option.map_some]

/-- The CANCEL of a key cancels the entries of that key. -/
theorem exec_cancelCommand {s : State} (hs : Ready s) {k : Key} (hk : k.wellFormed = true) (seq : Byte) :
    exec (cancelCommand seq k) s = .next
      ((s.cancel fun e => e.key == k).1.replied (replyTo seq (byteOf k.originator) (s.cancel fun e => e.key == k).2)) := by
  obtain ⟨h1, h2, hr, hw⟩ := Key.wellFormed_iff.mp hk
  obtain ⟨o, u, op, item, n, data⟩ := k
  cases op with
  | read =>
    obtain rfl : data = [] := hr rfl
    simp only [cancelCommand, exec, execCancelKey]
    rw [State.message_answered hs (o := o) (m := .cancelKey ⟨o, u, .read, item, n, []⟩) ?_ (by simp)]
    · simp [State.act, frame]
    · rw [Frame.message_eq]
      simp [parseCancel, bytes16, readReadFields_eq u item h1 h2]
  | write =>
    obtain rfl : data.length = n := hw rfl
    simp only [cancelCommand, exec, execCancelKey]
    rw [State.message_answered hs (o := o) (m := .cancelKey ⟨o, u, .write, item, data.length, data⟩) ?_ (by simp)]
    · simp [State.act, frame]
    · rw [Frame.message_eq]
      have := readWriteFields_eq u item h1 h2
      simp only [bytes16, List.cons_append, List.nil_append] at this
      simp [parseCancel, bytes16, this]

/-- A POST hands the Post Queues its fields. -/
theorem exec_post {s : State} (hs : Ready s) (seq : Byte) (o : Fin 8) (u : Fin 4096) (item : Byte) {data : List Byte}
    (h1 : 1 ≤ data.length) (h2 : data.length ≤ 32) :
    exec (.post seq (byteOf o) (BitVec.ofNat 16 u) item (byteOf data.length) data) s = .next
      ((s.acceptPost o u item data.length data).1.replied (replyTo seq (byteOf o) (s.acceptPost o u item data.length data).2)) := by
  simp only [exec, execPost]
  rw [State.message_answered hs (o := o) (m := .post u item data.length data) ?_ (by simp)]
  · simp [State.act, frame]
  · rw [Frame.message_eq]
    simp only [BitVec.reduceToNat, parsePost, readWriteFields_eq u item h1 h2, Option.map_some]

/-- A SET message hands the Parameter Store its code, index and value. -/
theorem State.message_set {s : State} (hs : Ready s) (seq : Byte) (o : Fin 8) (code index : Byte) (value : List Byte) :
    s.message (frame 0x06#8 seq (byteOf o) (setFields code index value)) =
      (s.setParameter code index value).1.replied (replyTo seq (byteOf o) (s.setParameter code index value).2) := by
  rw [State.message_answered hs (o := o) (m := .set code index value) ?_ (by simp)]
  · simp [State.act, frame]
  · rw [Frame.message_eq]; simp [parseSet, setFields]

/-- A GET message hands the Parameter Store its code and index. -/
theorem State.message_get {s : State} (hs : Ready s) (seq : Byte) (o : Fin 8) (code index : Byte) :
    s.message (frame 0x07#8 seq (byteOf o) [code, index]) = s.replied (replyTo seq (byteOf o) (s.getValue code index)) := by
  rw [State.message_answered hs (o := o) (m := .get code index) ?_ (by simp)]
  · simp [State.act, frame]
  · rw [Frame.message_eq]; simp [parseGet]

/-- A SPAN message reaches the Span Unit it names. -/
theorem State.message_span {s : State} (hs : Ready s) (seq : Byte) (o : Fin 8) (sp : Fin 4) {action : Byte} {a : SpanAction}
    (ha : spanAction? action = some a) :
    s.message (frame 0x05#8 seq (byteOf o) [byteOf sp, action]) =
      (s.spanAction sp a).1.replied (replyTo seq (byteOf o) (s.spanAction sp a).2) := by
  rw [State.message_answered hs (o := o) (m := .span sp a) ?_ (by simp)]
  · simp [State.act, frame]
  · rw [Frame.message_eq]; simp [parseSpan, index?_byteOf (by decide : 4 ≤ 256) sp, ha]

end Sys2Proof.Machine
end

