-- ==== Sys2Proof/Laws/Table.lean ====
section
/-! SUPPORT. The Transaction Table under unique keys: finding, changing and removing an entry, as `find?`, `map` and `filter`. -/

namespace Sys2Proof.Machine

set_option Elab.async false -- one proof after another: the threads of many at once would fill the memory

/-! ## Lists -/

/-- Changing the first element that satisfies p changes nothing when none does. -/
theorem updateFirst_of_none {α : Type} {p : α → Bool} {f : α → α} {l : List α} (h : ∀ a ∈ l, p a = false) :
    updateFirst p f l = l := by
  induction l with
  | nil => rfl
  | cons a l ih =>
    simp only [List.mem_cons, forall_eq_or_imp] at h
    simp [updateFirst, h.1, ih h.2]

theorem removeFirst_of_none {α : Type} {p : α → Bool} {l : List α} (h : ∀ a ∈ l, p a = false) : removeFirst p l = l := by
  induction l with
  | nil => rfl
  | cons a l ih =>
    simp only [List.mem_cons, forall_eq_or_imp] at h
    simp [removeFirst, h.1, ih h.2]

@[simp] theorem length_updateFirst {α : Type} (p : α → Bool) (f : α → α) (l : List α) :
    (updateFirst p f l).length = l.length := by
  induction l with
  | nil => rfl
  | cons a l ih => simp only [updateFirst]; split <;> simp [ih]

/-- What removes the first element leaves a sublist. -/
theorem removeFirst_sublist {α : Type} (p : α → Bool) (l : List α) : (removeFirst p l).Sublist l := by
  induction l with
  | nil => exact .refl _
  | cons a l ih =>
    simp only [removeFirst]
    split
    · exact List.sublist_cons_self a l
    · exact ih.cons_cons a

theorem length_removeFirst {α : Type} {p : α → Bool} {l : List α} (h : ∃ a ∈ l, p a = true) :
    (removeFirst p l).length + 1 = l.length := by
  induction l with
  | nil => simp at h
  | cons a l ih =>
    simp only [removeFirst]
    split
    · simp
    · next hp =>
      have : ∃ b ∈ l, p b = true := by
        obtain ⟨b, hb, hpb⟩ := h
        rcases List.mem_cons.mp hb with rfl | hb
        · exact absurd hpb hp
        · exact ⟨b, hb, hpb⟩
      simp [← ih this]

/-! ## Unique keys -/

/-- No two entries of the list have equal keys (R2). -/
abbrev UniqueKeys (es : List Entry) : Prop := es.Pairwise fun a b => a.key ≠ b.key

/-- With unique keys, the entry of a key is the one entry that has it. -/
theorem find?_key {es : List Entry} (h : UniqueKeys es) {e : Entry} (he : e ∈ es) :
    (es.find? fun x => x.key == e.key) = some e := by
  induction es with
  | nil => simp at he
  | cons a es ih =>
    rw [UniqueKeys, List.pairwise_cons] at h
    rcases List.mem_cons.mp he with rfl | he'
    · simp
    · simp [List.find?, beq_eq_false_iff_ne.mpr (h.1 e he'), ih h.2 he']

theorem find_of_mem {t : TransactionTable} (h : UniqueKeys t.entries) {e : Entry} (he : e ∈ t.entries) :
    t.find e.key = some e := find?_key h he

theorem find_eq_none {t : TransactionTable} {k : Key} : t.find k = none ↔ ∀ e ∈ t.entries, e.key ≠ k := by
  simp [TransactionTable.find]

theorem find_eq_some {t : TransactionTable} {k : Key} {e : Entry} (h : t.find k = some e) : e ∈ t.entries ∧ e.key = k := by
  have hm := List.mem_of_find?_eq_some h
  have hp := List.find?_some h
  exact ⟨hm, by simpa using hp⟩

/-- With unique keys, changing the entry of a key is a map. -/
theorem updateFirst_key {es : List Entry} (h : UniqueKeys es) (k : Key) (f : Entry → Entry) :
    updateFirst (fun e => e.key == k) f es = es.map fun e => if e.key = k then f e else e := by
  induction es with
  | nil => rfl
  | cons a es ih =>
    rw [UniqueKeys, List.pairwise_cons] at h
    by_cases ha : a.key = k
    · have hn : ∀ e ∈ es, e.key ≠ k := fun e he hk => h.1 e he (ha.trans hk.symm)
      have hm : es.map (fun e => if e.key = k then f e else e) = es := by
        conv => rhs; rw [← List.map_id es]
        exact List.map_congr_left fun e he => by simp [hn e he]
      simp [updateFirst, ha, hm]
    · simp [updateFirst, ha, ih h.2]

/-- With unique keys, removing the entry of a key is a filter. -/
theorem removeFirst_key {es : List Entry} (h : UniqueKeys es) (k : Key) :
    removeFirst (fun e => e.key == k) es = es.filter fun e => e.key ≠ k := by
  induction es with
  | nil => rfl
  | cons a es ih =>
    rw [UniqueKeys, List.pairwise_cons] at h
    by_cases ha : a.key = k
    · have hn : ∀ e ∈ es, e.key ≠ k := fun e he hk => h.1 e he (ha.trans hk.symm)
      have hm : es.filter (fun e => decide (e.key ≠ k)) = es := List.filter_eq_self.mpr fun e he => by simp [hn e he]
      simp only [removeFirst, beq_iff_eq, ha, if_true]
      rw [List.filter_cons_of_neg (by simp [ha]), hm]
    · simp only [removeFirst, beq_iff_eq, ha, if_false, ih h.2]
      rw [List.filter_cons_of_pos (by simp [ha])]

/-- `setState` under unique keys. -/
theorem setState_entries {t : TransactionTable} (h : UniqueKeys t.entries) (k : Key) (st : EntryState) :
    t.setState k st = { t with entries := t.entries.map fun e => if e.key = k then { e with state := st } else e } := by
  simp only [TransactionTable.setState, updateFirst_key h]

/-- `free` under unique keys. -/
theorem free_entries {t : TransactionTable} (h : UniqueKeys t.entries) (k : Key) :
    t.free k = { t with entries := t.entries.filter fun e => e.key ≠ k } := by
  simp only [TransactionTable.free, removeFirst_key h]

/-! ## Room -/

/-- A victim is an entry of the table, DELIVERED or a replaceable HELD one. -/
theorem victim_eq_some {t : TransactionTable} {p : Entry → Bool} {e : Entry} (h : t.victim p = some e) :
    e ∈ t.entries ∧ p e = true ∧ (e.state.isDelivered = true ∨ e.state.isHeld = true ∧ e.replaceable = true) := by
  simp only [TransactionTable.victim] at h
  split at h
  · next x hx =>
    cases h
    have := List.find?_some hx
    simp only [Bool.and_eq_true] at this
    exact ⟨List.mem_of_find?_eq_some hx, this.1, .inl this.2⟩
  · have := List.find?_some h
    simp only [Bool.and_eq_true] at this
    exact ⟨List.mem_of_find?_eq_some h, this.1.1, .inr ⟨this.1.2, this.2⟩⟩

/-- A reclaim removes the first entry of the victim's key. -/
theorem reclaim_entries (t : TransactionTable) (e : Entry) :
    (t.reclaim e).entries = removeFirst (fun x => x.key == e.key) t.entries := rfl

/-- The quota step leaves a sublist of the entries. -/
theorem quotaStep_sublist {t t' : TransactionTable} {sp : Fin 4} {quota : Nat} (h : t.quotaStep sp quota = some t') :
    t'.entries.Sublist t.entries := by
  simp only [TransactionTable.quotaStep] at h
  split at h
  · cases h; exact .refl _
  · simp only [Option.map_eq_some_iff] at h
    obtain ⟨e, -, rfl⟩ := h
    exact removeFirst_sublist _ _

/-- The capacity step leaves a sublist of at most 15 entries. -/
theorem capacityStep_spec {t t' : TransactionTable} (h : t.capacityStep = some t') (hl : t.entries.length ≤ 16) :
    t'.entries.Sublist t.entries ∧ t'.entries.length ≤ 15 := by
  simp only [TransactionTable.capacityStep] at h
  split at h
  · next hc => cases h; exact ⟨.refl _, Nat.le_of_lt_succ hc⟩
  · simp only [Option.map_eq_some_iff] at h
    obtain ⟨e, he, rfl⟩ := h
    obtain ⟨hm, -⟩ := victim_eq_some he
    have := length_removeFirst (p := fun x => x.key == e.key) ⟨e, hm, by simp⟩
    exact ⟨removeFirst_sublist _ _, by rw [reclaim_entries]; omega⟩

/-- Room is made by removal alone, and leaves at most 15 entries. -/
theorem room_spec {t t' : TransactionTable} {sp : Fin 4} {quota : Nat} (h : t.room sp quota = .ok t')
    (hl : t.entries.length ≤ 16) : t'.entries.Sublist t.entries ∧ t'.entries.length ≤ 15 := by
  simp only [TransactionTable.room] at h
  split at h
  · cases h
  · next t₁ h₁ =>
    split at h
    · cases h
    · next t₂ h₂ =>
      cases h
      have hs := quotaStep_sublist h₁
      obtain ⟨hs', hl'⟩ := capacityStep_spec h₂ (Nat.le_trans hs.length_le hl)
      exact ⟨hs'.trans hs, hl'⟩

end Sys2Proof.Machine
end

