-- ==== Sys2Proof/Tests/Slice0.lean ====
section
/-! SUPPORT. Tests: the refusals of WellFormed, the two checks on known words, one event of each command on a small state, and a witness
for the hypotheses of each obligation. Expected values are worked out by hand from the spec's tables and rules. -/

namespace Sys2Proof.Tests

open Sys2Proof.Machine

-- One theorem after another: with hundreds of kernel checks in flight at once, their threads would fill the memory.
set_option Elab.async false

/-! ## WellFormed refuses ill-formed commands -/

/-- So many zero bytes. -/
def zeros (n : Nat) : List Byte := List.replicate n 0#8

/-- One character of a response, its value 0. -/
def blank : LineChar := { value := 0#8, framingError := false }

/-- A READ key: originator 1, unit 5, item 7, two bytes. -/
def readKey : Key := { originator := 1, unit := 5, operation := .read, item := 7#8, length := 2, data := [] }

/-- A WRITE key: originator 2, unit 6, item 8, one byte. -/
def writeKey : Key := { originator := 2, unit := 6, operation := .write, item := 8#8, length := 1, data := [9#8] }

theorem test_wf_write_data : (Instr.write 0 0 0 0 0 (zeros 90)).wellFormed = false ∧ (Instr.write 0 0 0 0 0 (zeros 89)).wellFormed = true := by
  decide +kernel
theorem test_wf_post_data : (Instr.post 0 0 0 0 0 (zeros 90)).wellFormed = false := by decide +kernel
theorem test_wf_cancel_data :
    (Instr.cancelKey 0 0 2 0 0 0 (zeros 88)).wellFormed = false ∧ (Instr.cancelKey 0 0 2 0 0 0 (zeros 87)).wellFormed = true := by
  decide +kernel
theorem test_wf_values :
    ∀ c ∈ [Instr.setRoute 0 0 0, .setDefaultSpan 0 0 0, .setRoster 0 0 0, .setMissLimit 0 0 0, .setPollMs 0 0 0, .setRate 0 0 0,
      .setAlertEnable 0 0 0, .setAlertReporting 0 0 0, .set 0 0 1 0].map fun c => (c (zeros 92), c (zeros 91)),
      c.1.wellFormed = false ∧ c.2.wellFormed = true := by
  decide +kernel
theorem test_wf_set_own_row : ∀ code ∈ ownSetRow, (Instr.set 0 0 code 0 [1]).wellFormed = false := by decide +kernel
theorem test_wf_host_frame : (Instr.hostFrame []).wellFormed = false ∧ (Instr.hostFrame (zeros 101)).wellFormed = false := by decide +kernel
theorem test_wf_response :
    (Instr.responseFrameEnd 0 []).wellFormed = false ∧ (Instr.responseFrameEnd 0 (List.replicate 37 blank)).wellFormed = false := by
  decide +kernel
theorem test_wf_keys :
    ∀ k ∈ [{ readKey with length := 0 }, { readKey with length := 33 }, { readKey with data := [1#8, 2#8] }, { writeKey with data := [] }],
      (Instr.discardExpiry k).wellFormed = false ∧ (Instr.lingerExpiry k).wellFormed = false := by
  decide +kernel

/-! ## Byte order and checks: the check values of the two CRC algorithms for the nine digits "123456789" -/

theorem test_crc16 : crc16 [0x31, 0x32, 0x33, 0x34, 0x35, 0x36, 0x37, 0x38, 0x39] = 0x29B1#16 := by decide +kernel
theorem test_crc8 : crc8 [0x31, 0x32, 0x33, 0x34, 0x35, 0x36, 0x37, 0x38, 0x39] = 0xF4#8 := by decide +kernel
theorem test_high_byte_first : bytesOf16 500 = [0x01#8, 0xF4#8] ∧ number16 0x01#8 0xF4#8 = 500 := by decide +kernel

/-! ## Small states -/

/-- The state after a command. -/
def after (c : Instr) (s : State) : State :=
  match exec c s with
  | .next t => t
  | .fault _ => s
  | .refused _ => s

/-- SERVING, with nothing else changed since power-on. -/
def serving : State :=
  State.reset.setControl { state := .serving, rstnHigh := true, startUp := false, readyBegun := true }

/-- An ACTIVE span whose engine is free. -/
def freeUnit : SpanUnit :=
  { State.reset.span 0 with state := .active, srst := false, measure := .running }

/-- Units 1 to 15 on span 0, nodes 1 to 15. -/
def window0 : Window := { first := 1, last := 15, span := 0, base := 1 }

/-- Span 0 ACTIVE and free, with units 1 to 15 routed to it. -/
def active : State := (serving.setRouter (serving.router.setWindow 0 (some window0))).setSpan 0 freeUnit

/-- A deferred job of a READ of two bytes from node 5, in a phase, with so many attempts begun. -/
def readJob (phase : Phase) (begun : Nat) : Job :=
  { kind := .deferred, node := 5, operation := .read, item := 7#8, length := 2, data := [], limit := 4, begun, lastResult := none, phase }

/-- The deferred entry of `readKey` in a state. -/
def readEntry (st : EntryState) : Entry :=
  { key := readKey, replaceable := false, span := 0, node := 5, state := st, barrier := 0 }

/-- A record of two bytes read. -/
def okRecord : CompletionRecord := { outcome := .ok, nodeCode := none, attempts := 1, data := some [1#8, 2#8] }

/-- Span 0 works on the READ of `readKey`. -/
def reading (phase : Phase) (begun : Nat) : State :=
  (active.setSpan 0
    { freeUnit with
      job := some (readJob phase begun)
      sde := match phase with | .sending _ => true | _ => false
      measure := match phase with | .sending _ => .heldAtZero | _ => .running
      idle3 := false }).setEntries [readEntry .running]

/-- A post to node 3 from originator 2. -/
def post3 (inProgress : Bool) : Post :=
  { originator := 2, unit := 3, node := 3, item := 4#8, length := 1, data := [9#8], inProgress }

/-- Span 0 works on `post3`. -/
def posting (phase : Phase) (begun : Nat) : State :=
  active.setSpan 0
    { freeUnit with
      posts := [post3 true]
      job := some { kind := .post, node := 3, operation := .write, item := 4#8, length := 1, data := [9#8], limit := 4, begun
                    lastResult := none, phase }
      idle3 := false }

/-- Node 3 of span 0. -/
def node3 (status : NodeStatus) (misses : Nat) : NodeRecord := { address := 3, status, misses }

/-- Span 0 polls node 3, which is UNSEEN. -/
def polling (phase : Phase) : State :=
  active.setSpan 0
    { freeUnit with
      roster := [node3 .unseen 0]
      pollPosition := 3
      scheduler := { freeUnit.scheduler with pollTimer := .running 50 }
      job := some { kind := .poll, node := 3, operation := .poll, item := 0#8, length := 0, data := [], limit := 1, begun := 1
                    lastResult := none, phase }
      idle3 := false }

/-- Characters without framing errors. -/
def spell (bytes : List Byte) : List LineChar := bytes.map fun b => { value := b, framingError := false }

/-- The transmitter sends a reply. -/
def sendingReply (s : State) (slots : Nat) : State :=
  s.setLink { s.link with
    transmitter := .sending .reply []
    replies := { replyTo 0 0 (.done 0) with sending := true } :: List.replicate (slots - 1) (replyTo 0 0 (.done 0)) }

/-! ## One event of each command -/

/-- R15, R49, R71, Table 10-10: a READ is DEFERRED, runs at once, and the engine sends 05 01 07 02 with its check. -/
theorem test_read :
    let t := after (.read 9#8 1#8 5#16 7#8 2#8 0#8) active
    t.table.entries = [readEntry .running] ∧ (t.span 0).job = some (readJob (.sending [5#8, 1#8, 7#8, 2#8, 0x40#8]) 1) ∧
    t.link.replies.map (fun sl => sl.reply) = [.deferred false] := by
  decide +kernel

/-- R8, R9: a repeat of a HELD read is answered with its record and makes it DELIVERED; LINGER_MS is 100. -/
theorem test_read_held :
    let t := after (.read 9#8 1#8 5#16 7#8 2#8 0#8) (active.setEntries [readEntry (.held okRecord 500)])
    t.table.entries = [readEntry (.delivered okRecord 100)] ∧
    t.link.replies.map (fun sl => sl.reply) = [.completion .ok 0#8 1 false [1#8, 2#8]] := by
  decide +kernel

/-- R10: a WRITE to a unit without a route. -/
theorem test_write_no_route :
    (after (.write 9#8 1#8 16#16 7#8 1#8 [3#8]) active).link.replies.map (fun sl => sl.reply) = [.refused .noRoute] := by decide +kernel

/-- R25: a WRITE behind two posts takes barrier 2. -/
theorem test_write_barrier :
    (after (.write 9#8 1#8 5#16 7#8 1#8 [3#8]) (active.setSpan 0 { freeUnit with posts := [post3 true, post3 false] })).table.entries.map
      (fun e => (e.state, e.barrier)) = [(.queued, 2)] := by
  decide +kernel

/-- R34, R35: a POST joins an empty queue at depth 1 and goes out. -/
theorem test_post :
    let t := after (.post 9#8 2#8 3#16 4#8 1#8 [9#8]) active
    (t.span 0).posts = [post3 true] ∧ t.link.replies.map (fun sl => sl.reply) = [.posted 1] := by
  decide +kernel

/-- R36: a POST to a closed span under FAIL is dropped and raises POST_DISCARDED. -/
theorem test_post_fail :
    let t := after (.post 9#8 2#8 3#16 4#8 1#8 [9#8])
      (active.setSpan 0 { State.reset.span 0 with params := { freeUnit.params with closedAnswer := .fail } })
    (t.span 0).postsDiscarded = 1 ∧ (t.alerts.condition 4).cause = some (.full 0 3 2 3 4#8) ∧
    t.link.replies.map (fun sl => sl.reply) = [.posted 0] := by
  decide +kernel

/-- R22: a CANCEL of a RUNNING entry makes it CANCELLING and counts 1. -/
theorem test_cancel_key :
    let t := after (.cancelKey 9#8 1#8 1#8 5#16 7#8 2#8 []) (reading .receiving 1)
    t.table.entries = [readEntry .cancelling] ∧ t.link.replies.map (fun sl => sl.reply) = [.cancelled 1] := by
  decide +kernel

/-- R23: a CANCEL of all frees a HELD entry of its originator and no other's. -/
theorem test_cancel_all :
    (after (.cancelAll 9#8 1#8) (active.setEntries [readEntry (.held okRecord 500)])).table.entries = [] ∧
    (after (.cancelAll 9#8 2#8) (active.setEntries [readEntry (.held okRecord 500)])).table.entries.length = 1 := by
  decide +kernel

/-- R87: ENABLE of an OFF span releases SRSTn and starts the settle timer at SETTLE_MS. -/
theorem test_span_enable :
    let u := (after (.spanEnable 9#8 0#8 2#8) serving).span 2
    u.state = .starting ∧ u.srst = false ∧ u.settle = some 100 ∧ u.scheduler.pollTimer = .expired := by
  decide +kernel

/-- R90: QUIESCE with a job in progress waits for it. -/
theorem test_span_quiesce :
    ((after (.spanQuiesce 9#8 0#8 0#8) (reading .receiving 1)).span 0).state = .quiescing ∧
    ((after (.spanQuiesce 9#8 0#8 0#8) active).span 0).state = .quiesced := by
  decide +kernel

/-- R26, R92: OFF makes the entry of an aborted job HELD with SPAN_RESET and its attempts begun. -/
theorem test_span_off :
    let t := after (.spanOff 9#8 0#8 0#8) (reading .receiving 2)
    (t.span 0).state = .off ∧ (t.span 0).job = none ∧
    t.table.entries.map (fun e => e.state) = [.held { outcome := .spanReset, nodeCode := none, attempts := 2, data := none } 500] := by
  decide +kernel

/-- R105, R106: a window that overlaps another is refused, and one beside it is taken. -/
theorem test_set_route :
    (after (.setRoute 9#8 0#8 1#8 [1, 0, 15, 0, 16, 1, 1]) active).router.window 1 = none ∧
    (after (.setRoute 9#8 0#8 1#8 [1, 0, 16, 0, 30, 1, 1]) active).router.window 1 = some { first := 16, last := 30, span := 1, base := 1 } := by
  decide +kernel

/-- R103, R107: unit 4095 goes to node 15 of the default span, and unit 16 to NO_ROUTE. -/
theorem test_set_default_span :
    let r := (after (.setDefaultSpan 9#8 0#8 0#8 [3#8]) active).router
    r.resolve 4095 = some (3, 15) ∧ r.resolve 16 = none := by
  decide +kernel

/-- R113: members in ascending order, once each, UNSEEN. -/
theorem test_set_roster :
    ((after (.setRoster 9#8 0#8 1#8 [3, 7, 2, 7]) active).span 1).roster =
      [{ address := 2, status := .unseen, misses := 0 }, { address := 7, status := .unseen, misses := 0 }] := by
  decide +kernel

/-- R117: a limit at the present count makes the node LOST and offers kind 65. -/
theorem test_set_miss_limit :
    let t := after (.setMissLimit 9#8 0#8 0#8 [2#8]) (active.setSpan 0 { freeUnit with roster := [node3 .present 2] })
    (t.span 0).roster = [node3 .lost 2] ∧ t.notices.entries = [{ span := 0, node := 3, kind := 65, value := 0, count := 1 }] := by
  decide +kernel

/-- R55: POLL_MS 0 stops the poll timer; a value above 1000 is refused. -/
theorem test_set_poll_ms :
    ((after (.setPollMs 9#8 0#8 0#8 [0, 0]) (polling .receiving)).span 0).scheduler.pollTimer = .stopped ∧
    (after (.setPollMs 9#8 0#8 0#8 [3, 233]) active).link.replies.map (fun sl => sl.reply) = [.refused .badValue] := by
  decide +kernel

/-- R62: RATE is refused on an ACTIVE span and taken on one that is OFF. -/
theorem test_set_rate :
    (after (.setRate 9#8 0#8 0#8 [0, 100]) active).link.replies.map (fun sl => sl.reply) = [.refused .wrongState] ∧
    ((after (.setRate 9#8 0#8 1#8 [0, 100]) active).span 1).params.rate = .r100 := by
  decide +kernel

/-- An enabled condition is set while reporting is OFF. -/
def raisedQuietly : State := serving.raise .linkError .none

/-- R136: disabling the one condition that is set releases ATTN. -/
theorem test_set_alert_enable :
    let s := raisedQuietly.setAlerts { raisedQuietly.alerts with reporting := true, attn := true }
    (after (.setAlertEnable 9#8 0#8 7#8 [0]) s).alerts.attn = false := by
  decide +kernel

/-- R137, R174: reporting turned ON with a condition set asserts ATTN and makes an ALERT due; the reply goes first. -/
theorem test_set_alert_reporting :
    let t := after (.setAlertReporting 9#8 0#8 0#8 [1]) raisedQuietly
    t.alerts.attn = true ∧ t.alerts.due = true := by
  decide +kernel

/-- R147: ATTEMPTS 15 is taken, 16 refused, and a read-only item refused. -/
theorem test_set :
    (after (.set 9#8 0#8 4#8 0#8 [15]) serving).params.attempts = 15 ∧
    (after (.set 9#8 0#8 4#8 0#8 [16]) serving).link.replies.map (fun sl => sl.reply) = [.refused .badValue] ∧
    (after (.set 9#8 0#8 0x41#8 0#8 [1]) serving).link.replies.map (fun sl => sl.reply) = [.refused .badParameter] := by
  decide +kernel

/-- R149, R153, Table 9-5: IDENTITY. -/
theorem test_get :
    (after (.get 9#8 0#8 0x40#8 0#8) serving).link.replies.map (fun sl => sl.reply) =
      [.value 0x40#8 0#8 [0x1C, 0x4A, 0x04, 0x15, 1, 4, 16]] := by
  decide +kernel

/-- R141: CLEAR of bit 7 clears LINK_ERROR; of bit 6 it does not. -/
theorem test_clear :
    ((after (.clear 9#8 0#8 0x0080#16) raisedQuietly).alerts.condition 7).set = false ∧
    ((after (.clear 9#8 0#8 0x0040#16) raisedQuietly).alerts.condition 7).set = true := by
  decide +kernel

/-- R126: credit stops at 8, and 0 revokes. -/
theorem test_credit :
    let s := serving.setNotices { serving.notices with credit := 5 }
    (after (.credit 9#8 0#8 6#8) s).notices.credit = 8 ∧ (after (.credit 9#8 0#8 0#8) s).notices.credit = 0 := by
  decide +kernel

/-- R155: RESTART leads to DRAINING, its DONE on HTX. -/
theorem test_restart :
    let t := after (.restart 9#8 0#8) serving
    t.control.state = .draining ∧ t.link.transmitter = .sending .reply (frameBytes [0x87#8, 9#8, 0#8, 0#8]) := by
  decide +kernel

/-- R163, R164: a CREDIT as a frame, with the CRC that a bit-by-bit division outside Lean gives it. -/
theorem test_host_frame :
    (after (.hostFrame [0xA5, 0x04, 0x09, 0x01, 0x00, 0x02, 0x7C, 0x0F]) serving).notices.credit = 2 := by
  decide +kernel

/-- R166, R167: a length byte below 3 fails the frame. -/
theorem test_host_frame_fails :
    let t := after (.hostFrame [0xA5, 0x02]) serving
    t.link.linkErrors = 1 ∧ t.link.receiver = .hunting ∧ (t.alerts.condition 7).set = true := by
  decide +kernel

/-- R165: the sync byte opens a frame. -/
theorem test_hrx_byte : (after (.hrxByteReceived 0xA5#8) serving).link.receiver = .collecting [] := by decide +kernel

/-- 10.3.1, Table 10-4: F1 arrives damaged in its last body byte, and hides F2 behind it until the gap gives F2 up. -/
theorem test_gap :
    let f1 := (frameBytes [0x01, 0x17, 0x02, 0x00, 0xA5, 0x10, 0x04, 0x00]).set 9 0x01
    let f2 := frameBytes [0x07, 0x18, 0x02, 0x44, 0x00]
    let s := after (.hostFrame (f1 ++ f2)) serving
    let t := after .gapFailure s
    f1.take 2 = [0xA5, 0x08] ∧ s.link.linkErrors = 1 ∧ s.link.receiver = .collecting ([0x10, 0x04, 0x01] ++ f1.drop 10 ++ f2) ∧
    t.link.linkErrors = 2 ∧ t.link.receiver = .hunting ∧ t.link.replies.map (fun sl => sl.reply) = [.value 0x44 0x00 [0x00]] := by
  decide +kernel

/-- R173, R174: the end of a reply frees its slot and the next reply goes out. -/
theorem test_tx_frame_end :
    let t := after .txFrameEnd (sendingReply serving 2)
    t.link.replies = [{ replyTo 0 0 (.done 0) with sending := true }] ∧ t.link.transmitter = .sending .reply (replyTo 0 0 (.done 0)).bytes := by
  decide +kernel

/-- R160: power-on leaves the relay HELD in its start-up. -/
theorem test_power_on : (after .powerOn active).control.state = .held ∧ (after .powerOn active).control.startUp = true := by decide +kernel

/-- R160, R162: the start-up ends with both straps high: 3 Mbit/s, and READY with cause POWER_ON. -/
theorem test_start_up_end :
    let t := after (.startUpEnd { baud1 := true, baud0 := true }) State.reset
    t.control.state = .announcing ∧ t.link.bitRate = .b3000000 ∧
    t.link.transmitter =
      .sending (.ready false) (frameBytes [0xC3#8, 0#8, 0#8, 0#8, 0x1C#8, 0x4A#8, 0x04#8, 0x15#8, 1#8, 4#8, 16#8]) := by
  decide +kernel

/-- R159: RSTn low resets every block. -/
theorem test_rstn_low :
    let t := after .rstnLow (reading .receiving 1)
    t.control.state = .held ∧ t.control.rstnHigh = false ∧ t.table.entries = [] ∧ (t.span 0).state = .off := by
  decide +kernel

/-- R160: RSTn high after a READY has begun announces with cause RESET_LINE (code 1). -/
theorem test_rstn_high :
    (after (.rstnHigh { baud1 := false, baud0 := false }) (after .rstnLow serving)).link.transmitter =
      .sending (.ready false) (frameBytes [0xC3#8, 0#8, 0#8, 1#8, 0x1C#8, 0x4A#8, 0x04#8, 0x15#8, 1#8, 4#8, 16#8]) := by
  decide +kernel

/-- R160: the first byte of READY. -/
theorem test_ready_first_byte :
    (after .readyFirstByte (after (.startUpEnd { baud1 := false, baud0 := false }) State.reset)).control.readyBegun = true := by
  decide +kernel

/-- R19: a discard expiry. -/
theorem test_discard_expiry :
    let t := after (.discardExpiry readKey) (active.setEntries [readEntry (.held okRecord 500)])
    t.table.entries = [] ∧ t.table.discardCount = 1 ∧ (t.alerts.condition 5).cause = some (.full 0 5 1 5 7#8) := by
  decide +kernel

/-- R20: a linger expiry. -/
theorem test_linger_expiry :
    let t := after (.lingerExpiry readKey) (active.setEntries [readEntry (.delivered okRecord 100)])
    t.table.entries = [] ∧ t.table.discardCount = 0 := by
  decide +kernel

/-- R88: the settle timer's expiry makes the span ACTIVE. -/
theorem test_settle_expiry :
    let s := active.setSpan 0 { freeUnit with state := .starting, settle := some 100 }
    ((after (.settleExpiry 0) s).span 0).state = .active ∧ ((after (.settleExpiry 0) s).span 0).settle = none := by
  decide +kernel

/-- R54, R114: the poll timer's expiry starts a poll of the one node. -/
theorem test_poll_timer_expiry :
    let s := active.setSpan 0
      { freeUnit with roster := [node3 .unseen 0], scheduler := { freeUnit.scheduler with pollTimer := .running 50 } }
    ((after (.pollTimerExpiry 0) s).span 0).job.map (fun j => (j.kind, j.node, j.limit)) = some (.poll, 3, 1) := by
  decide +kernel

/-- R71, R82: the turnaround ends and the attempt begins. -/
theorem test_turnaround_complete :
    let u := (after (.turnaroundComplete 0) (reading (.turnaround 10) 0)).span 0
    u.sde = true ∧ u.counters.attemptsMade = 1 ∧ u.job.map (fun j => j.begun) = some 1 := by
  decide +kernel

/-- R68: the window opens as the command frame ends; with SDn active a start bit counts as seen. -/
theorem test_command_frame_sent :
    let s := reading (.sending (readJob .receiving 1).commandFrame) 1
    ((after (.commandFrameSent 0 false) s).span 0).phase = some (.window 10) ∧
    ((after (.commandFrameSent 0 true) s).span 0).phase = some .receiving := by
  decide +kernel

/-- R68: a start bit in the window. -/
theorem test_response_start : ((after (.responseStart 0) (reading (.window 10) 1)).span 0).phase = some .receiving := by decide +kernel

/-- R64: a node that sends on the idle span delays the next command until SDn has been idle for three character times. -/
theorem test_late_node :
    let t := after (.read 9#8 1#8 5#16 7#8 2#8 0#8) (after (.responseStart 0) active)
    (t.span 0).phase = some (.turnaround 10) ∧
    ((after (.responseFrameEnd 0 [blank]) t).span 0).phase = some (.sending [5#8, 1#8, 7#8, 2#8, 0x40#8]) := by
  decide +kernel

/-- R74, R75: at the attempt limit SILENT ends the job NO_RESPONSE. -/
theorem test_response_window_expiry :
    (after (.responseWindowExpiry 0) (reading (.window 10) 4)).table.entries.map (fun e => e.state) =
      [.held { outcome := .noResponse, nodeCode := none, attempts := 4, data := none } 500] := by
  decide +kernel

/-- R72, R17: a good answer to a READ completes its entry with the data. -/
theorem test_response_frame_end :
    (after (.responseFrameEnd 0 (spell [5, 1, 1, 2, 0x3E])) (reading .receiving 1)).table.entries =
      [readEntry (.held okRecord 500)] := by
  decide +kernel

/-- R38, Table 2-3: a refused post is removed and raises POST_REFUSED. -/
theorem test_post_refused :
    let t := after (.responseFrameEnd 0 (spell [3, 3, 7, 0x97])) (posting .receiving 1)
    (t.span 0).posts = [] ∧ (t.alerts.condition 0).cause = some (.full 0 3 2 3 4#8) := by
  decide +kernel

/-- R63, R69: a 37th character makes the attempt GARBLED, tried again after a turnaround. -/
theorem test_response_character_37 :
    let u := (after (.responseCharacter37 0) (reading .receiving 1)).span 0
    u.phase = some (.turnaround 10) ∧ u.counters.attemptsGarbled = 1 := by
  decide +kernel

/-- R73: a backoff ends in the turnaround. -/
theorem test_backoff_expiry : ((after (.backoffExpiry 0) (reading (.backoff 5) 1)).span 0).phase = some (.turnaround 10) := by
  decide +kernel

/-- R96, R41: a line fault discards the posts and raises both conditions. -/
theorem test_line_fault :
    let t := after (.lineFault 0) (posting .receiving 1)
    (t.span 0).state = .faulted ∧ (t.span 0).postsDiscarded = 1 ∧ (t.alerts.condition 4).set = true ∧
    (t.alerts.condition 6).cause = some (.span 0) := by
  decide +kernel

/-- The table gives no row bits. -/
theorem test_no_word_spells_a_command : decodeTableWord 0 0 = none := by decide

/-- A step takes the command at the front of the queue. -/
theorem test_step_front :
    (match step (serving.setPending [.hrxByteReceived 0xA5#8, .gapFailure]) with
      | .next t => t.pending == [.gapFailure] && t.link.receiver == .collecting []
      | .fault _ => false
      | .refused _ => false) = true := by
  decide +kernel

/-! ## Witnesses: states and operands that meet the hypotheses of the obligations

The names are those of the obligations. -/

/-- A state in which much is going on: span 0 works on a read, a post and a write behind it wait, a node is LOST, a notice waits for
credit, an alert is due, a reply is on HTX, and a line fault comes next. -/
def busy : State :=
  let s := sendingReply (reading .receiving 1) 1
  let s := s.updateSpan 0 fun u => { u with posts := [post3 false], roster := [node3 .lost 3] }
  let s := s.setEntries
    [readEntry .running, { key := writeKey, replaceable := false, span := 0, node := 6, state := .queued, barrier := 1 },
      { readEntry (.held okRecord 500) with key := { readKey with item := 1 }, replaceable := true }]
  let s := s.setNotices { entries := [{ span := 0, node := 3, kind := 65, value := 0, count := 1 }], credit := 0, lost := 0 }
  let s := s.setAlerts (({ s.alerts with reporting := true } : AlertUnit).raise .linkError .none)
  s.setPending [.lineFault 0]

theorem witness_step_busy : ∃ t, step busy = .next t := ⟨_, rfl⟩

theorem witness_StepRunsTheFrontCommand : busy.pending = .lineFault 0 :: [] ∧ active.pending = [] := by decide +kernel

theorem witness_AlertsStaySound : AlertsSound busy := by
  unfold AlertsSound Condition.Sound; decide +kernel

/-- The windows of `busy`: one, at index 0. -/
theorem busy_window : ∀ i, busy.router.window i = if i = 0 then some window0 else none := by decide +kernel

theorem witness_RoutesStaySound : RoutesSound busy.router := by
  refine ⟨fun i w h => ?_, fun i j v w u hij hv hw => ?_⟩
  · rw [busy_window] at h
    split at h
    · cases h; decide +kernel
    · cases h
  · rw [busy_window] at hv hw
    split at hv
    · split at hw
      · exact absurd (by simp_all) hij
      · cases hw
    · cases hv

theorem witness_TableStaysSound : TableBounded busy ∧ BarriersSound busy ∧ ClosedSpansHoldNoWork busy := by
  unfold TableBounded BarriersSound ClosedSpansHoldNoWork; decide +kernel

theorem witness_SubjectsStaySound : SubjectsSound busy := by
  unfold SubjectsSound; decide +kernel

theorem witness_RecordsStaySound : RecordsSound busy := by
  simp only [RecordsSound, RecordSound, ← Option.mem_def]; decide +kernel

/-- Whether a phase is SENDING. -/
theorem sending_iff (o : Option Phase) :
    (∃ frame, o = some (.sending frame)) ↔ (match o with | some (.sending _) => true | _ => false) = true := by
  cases o with
  | none => simp
  | some p => cases p <;> simp

theorem outputs_busy : OutputsSound busy := by
  simp only [OutputsSound, SpanUnit.OutputsSound, sending_iff]; decide +kernel

theorem posts_busy : PostsSound busy := by
  simp only [PostsSound, SpanUnit.PostsSound, ← Option.mem_def]; decide +kernel

theorem scheduler_busy : SchedulerSound busy := by
  unfold SchedulerSound SpanUnit.SchedulerSound; decide +kernel

theorem jobs_busy : JobsSound busy := by
  intro sp j h
  have hj : ∀ sp, (busy.span sp).job = if sp = 0 then some (readJob .receiving 1) else none := by decide +kernel
  rw [hj] at h
  split at h
  · cases h; exact ⟨by decide, by decide, by decide, by decide, by decide, by decide, Nat.le_refl 1⟩
  · cases h

theorem params_busy : ParamsInRange busy := by
  unfold ParamsInRange SpanParams.InRange; decide +kernel

theorem witness_SpansStaySound :
    ParamsInRange busy ∧ OutputsSound busy ∧ PostsSound busy ∧ SchedulerSound busy ∧ JobsSound busy ∧ TurnaroundsSound busy ∧
    TurnaroundsSound (reading (.turnaround 10) 1) := by
  refine ⟨params_busy, outputs_busy, posts_busy, scheduler_busy, jobs_busy, fun sp ms hp => ?_, fun sp ms hp => ?_⟩
  · have h : ∀ sp, (busy.span sp).idle3 = false ∨ (busy.span sp).phase = none := by decide +kernel
    exact (h sp).resolve_right fun h => by rw [h] at hp; cases hp
  · have h : ∀ sp, ((reading (.turnaround 10) 1).span sp).idle3 = false ∨ ((reading (.turnaround 10) 1).span sp).phase = none := by
      decide +kernel
    exact (h sp).resolve_right fun h => by rw [h] at hp; cases hp

theorem witness_RostersStaySound : RosterSound busy := by
  unfold RosterSound SpanUnit.RosterSound; decide +kernel

theorem witness_NoEngineIdlesWhileWorkWaits : OutputsSound busy ∧ NoIdleWork busy := by
  refine ⟨outputs_busy, ?_⟩
  unfold NoIdleWork WorkWaits; decide +kernel

theorem queues_busy : QueuesSound busy := by
  simp only [QueuesSound, ← Option.mem_def]
  refine ⟨by decide +kernel, by decide +kernel, by decide +kernel, by decide +kernel, ?_⟩
  exact ⟨fun _ => ⟨[], rfl⟩, fun _ => ⟨_, rfl, rfl⟩⟩

theorem link_of_serving {s : State} (hc : s.control = serving.control) (hr : ReceiverSound s) (hq : QueuesSound s)
    (ht : TransmitterSound s) (hx : ∀ b bytes, s.link.transmitter ≠ .sending (.ready b) bytes)
    (hd : ∀ sl ∈ s.link.replies, sl.ofRestart = false) : LinkSound s := by
  have hs : s.control.state = .serving := by rw [hc]; rfl
  have h1 : s.control.rstnHigh = true := by rw [hc]; rfl
  have h2 : s.control.startUp = false := by rw [hc]; rfl
  refine ⟨hr, hq, ht, ⟨?_, ?_, ?_, ?_, ?_⟩, ?_, ?_⟩
  · simp [hs, hx]
  · simp [hs]
  · simp only [hs]
    constructor
    · intro h; cases h
    · rintro ⟨sl, hl, hsl⟩
      rw [hd sl (List.mem_of_getLast? hl)] at hsl
      cases hsl
  · intro sl hsl; exact hd sl (List.dropLast_subset _ hsl)
  · simp [hs, h1, h2]
  · simp [hs]
  · simp [hs]

theorem witness_LinkStaysSound : LinkSound busy :=
  link_of_serving (by decide +kernel) (fun l more h => by cases h) queues_busy (fun h => by cases h) (fun _ _ h => by cases h)
    (by decide +kernel)

theorem witness_ValuesStayInRange : RosterSound busy ∧ NoticesSound busy ∧ ParamsInRange busy ∧ CountersBounded busy := by
  refine ⟨witness_RostersStaySound, ?_, params_busy, ?_⟩
  · unfold NoticesSound; decide +kernel
  · unfold CountersBounded; decide +kernel

/-! ### Host messages -/

theorem ready_serving : Ready serving := by unfold Ready; decide +kernel
theorem ready_active : Ready active := by unfold Ready; decide +kernel

theorem witness_MalformedMessageIsRefused :
    Ready busy ∧ messageBody (.credit 1#8 0#8 9#8) = some (0x09#8 :: 1#8 :: 0#8 :: [9#8]) ∧ envelopeOk (.credit 1#8 0#8 9#8) = false ∧
    envelopeOk (.get 1#8 8#8 0x40#8 0#8) = false := by
  unfold Ready; decide +kernel

/-- One entry in each of the five states, and a linger time of 0 or more. -/
def fiveStates (lingerMs : Nat) : State :=
  let at' (i : Byte) (st : EntryState) : Entry := { readEntry st with key := { readKey with item := i } }
  (active.setParams { active.params with lingerMs }).setEntries
    [at' 0 .queued, at' 1 .running, at' 2 .cancelling, at' 3 (.held okRecord 500), at' 4 (.delivered okRecord 100)]

theorem witness_RepeatIsAnsweredFromItsEntry :
    ∀ n ∈ [0, 100], Ready (fiveStates n) ∧ TableBounded (fiveStates n) ∧
      ∀ i ∈ [0#8, 1#8, 2#8, 3#8, 4#8], (Key.wellFormed { readKey with item := i }) = true ∧
        ∃ e ∈ (fiveStates n).table.entries, e.key = { readKey with item := i } := by
  unfold Ready TableBounded; decide +kernel

theorem witness_NewRequestIsJudgedInOrder :
    Ready busy ∧ Ready active ∧ ∀ k ∈ [{ readKey with item := 3 }, { readKey with unit := 16 }, { writeKey with unit := 4095 }],
      k.wellFormed = true ∧ (∀ e ∈ busy.table.entries, e.key ≠ k) ∧ ∀ e ∈ active.table.entries, e.key ≠ k := by
  unfold Ready; decide +kernel

/-- Sixteen entries of span 0. -/
def sixteen : List Entry :=
  (List.range 16).map fun i => { readEntry .queued with key := { readKey with item := byteOf i } }

theorem witness_RoomIsMadeByOneReclaim :
    sixteen.length = 16 ∧ sixteen.Pairwise (fun a b => a.key ≠ b.key) ∧
    busy.table.entries.length ≤ 16 ∧ busy.table.entries.Pairwise (fun a b => a.key ≠ b.key) := by
  decide +kernel

theorem witness_PostIsAnsweredByItsSpan : Ready active ∧ (zeros 1).length = 1 ∧ (zeros 32).length = 32 := by
  unfold Ready; decide +kernel

theorem witness_CancelReachesItsOriginatorsEntries : Ready (fiveStates 0) ∧ TableBounded (fiveStates 0) ∧ readKey.wellFormed = true := by
  unfold Ready TableBounded; decide +kernel

/-! ### SPAN messages -/

/-- Span 0 in a state, with nothing in progress. -/
def inState (st : SpanState) : State :=
  active.setSpan 0
    { freeUnit with
      state := st, srst := !st.isOpen, settle := if st = .starting then some 100 else none
      measure := if st.isOpen then .running else .stopped }

theorem witness_SpanEnableByState :
    ∀ st ∈ [SpanState.off, .starting, .active, .quiescing, .quiesced, .faulted], Ready (inState st) := by
  unfold Ready; decide +kernel

theorem witness_SpanQuiesceByState : Ready active ∧ Ready (reading .receiving 1) := by unfold Ready; decide +kernel

theorem witness_SpanOffOfAnOpenSpan : Ready busy ∧ (busy.span 0).state.isOpen = true ∧ SubjectsSound busy := by
  unfold Ready SubjectsSound; decide +kernel

theorem witness_SpanOffOfAClosedSpan :
    ∀ st ∈ [SpanState.off, .faulted],
      let s := (inState st).setEntries [readEntry (.held okRecord 500)]
      Ready s ∧ BarriersSound s ∧ ClosedSpansHoldNoWork s ∧ (s.span 0).state = st := by
  unfold Ready BarriersSound ClosedSpansHoldNoWork; decide +kernel

/-! ### SET and GET -/

theorem witness_SetOfRouting :
    Ready active ∧ RouteValue active.router 7 [0#8] none ∧
    RouteValue active.router 7 [1#8, 0#8, 16#8, 0#8, 30#8, 3#8, 1#8] (some { first := 16, last := 30, span := 3, base := 1 }) ∧
    (¬ ∃ w, RouteValue active.router 7 [2#8] w) ∧ 8 ≤ (8#8 : Byte).toNat := by
  refine ⟨ready_active, Or.inl ⟨rfl, rfl⟩, Or.inr ?_, ?_, by decide⟩
  · refine ⟨0#8, 16#8, 0#8, 30#8, 3, 1#8, rfl, by decide, by decide, by decide, by decide, by decide, ?_⟩
    intro j v _ h
    have hw : ∀ i, active.router.window i = if i = 0 then some window0 else none := by decide +kernel
    rw [hw] at h
    split at h
    · cases h; decide
    · cases h
  · rintro ⟨w, ⟨h, _⟩ | ⟨f1, f0, l1, l0, sp, base, h, _⟩⟩
    · exact absurd h (by decide)
    · cases h

theorem witness_SetOfRouting_defaultSpan :
    (∃ sp : Fin 4, [3#8] = [byteOf sp]) ∧ (∀ sp : Fin 4, [4#8] ≠ [byteOf sp]) ∧ [4#8] ≠ [0xFF#8] ∧ (1#8 : Byte) ≠ 0#8 := by decide

theorem witness_SetOfRoster :
    Ready (polling .receiving) ∧
    (∀ addresses ∈ [[], [15#8], List.replicate 15 1#8],
      addresses.length = (byteOf addresses.length).toNat ∧ (byteOf addresses.length).toNat ≤ 15 ∧
        ∀ a ∈ addresses, 1 ≤ a.toNat ∧ a.toNat ≤ 15) ∧
    (∀ value ∈ [[1#8, 16#8], [1#8, 0#8], [2#8, 1#8]],
      ∀ n as, value = n :: as → ¬ (as.length = n.toNat ∧ n.toNat ≤ 15 ∧ ∀ a ∈ as, 1 ≤ a.toNat ∧ a.toNat ≤ 15)) ∧
    4 ≤ (4#8 : Byte).toNat := by
  refine ⟨by unfold Ready; decide +kernel, by decide +kernel, ?_, by decide⟩
  intro value hv n as h
  simp only [List.mem_cons, List.not_mem_nil, or_false] at hv
  rcases hv with rfl | rfl | rfl <;> cases h <;> decide

theorem witness_SetOfMissLimit :
    Ready busy ∧ (∀ n ∈ [1#8, 15#8], 1 ≤ n.toNat ∧ n.toNat ≤ 15) ∧
    (∀ value ∈ [[0#8], [16#8], []], ∀ n : Byte, value = [n] → ¬ (1 ≤ n.toNat ∧ n.toNat ≤ 15)) ∧ 4 ≤ (4#8 : Byte).toNat := by
  refine ⟨by unfold Ready; decide +kernel, by decide, ?_, by decide⟩
  intro value hv n h
  simp only [List.mem_cons, List.not_mem_nil, or_false] at hv
  rcases hv with rfl | rfl | rfl <;> cases h <;> decide

theorem witness_SetOfPollIntervalAndRate :
    Ready active ∧ valueNumber [3#8, 232#8] = 1000 ∧ 1000 < valueNumber [3#8, 233#8] ∧ ([7#8] : List Byte).length ≠ 2 ∧
    valueNumber [0#8, 100#8] = 100 ∧ valueNumber [0#8, 250#8] = 250 ∧ valueNumber [1#8, 244#8] = 500 ∧
    valueNumber [0#8, 101#8] ∉ [100, 250, 500, 1000] ∧ 4 ≤ (4#8 : Byte).toNat := by
  unfold Ready; decide +kernel

theorem witness_SetOfAlertParameters :
    Ready busy ∧ ([2#8] : List Byte) ≠ [0#8] ∧ ([2#8] : List Byte) ≠ [1#8] ∧ 10 ≤ (10#8 : Byte).toNat ∧ (1#8 : Byte) ≠ 0#8 := by
  unfold Ready; decide +kernel

theorem witness_SetOfOtherParameters :
    let settle : ValueRange := { width := 2, low := 0, high := 1000 }
    Ready active ∧ plainParameter 0x0A#8 = some settle ∧ (3#8 : Byte).toNat < indexCount 0x0A#8 ∧ settle.Takes [3#8, 232#8] ∧
    settle.Takes [0#8, 0#8] ∧ ¬ settle.Takes [3#8, 233#8] ∧ ¬ settle.Takes [0#8] ∧ indexCount 0x0A#8 ≤ (4#8 : Byte).toNat ∧
    0x40 ≤ (0x40#8 : Byte).toNat := by
  unfold Ready ValueRange.Takes; decide +kernel

theorem witness_GetReportsTheState : Ready busy ∧ indexCount 0x44#8 ≤ (4#8 : Byte).toNat ∧ indexCount 0x13#8 ≤ (0#8 : Byte).toNat := by
  unfold Ready; decide +kernel

theorem witness_GetAfterSetReturnsTheValue :
    Ready active ∧ active.link.replies.length < 7 ∧ (0x08#8 : Byte) ≠ 0x0D#8 ∧
    exec (.set 1#8 (byteOf 0) 0x08#8 3#8 [50#8]) active = .next (after (.set 1#8 (byteOf 0) 0x08#8 3#8 [50#8]) active) ∧
    ((after (.set 1#8 (byteOf 0) 0x08#8 3#8 [50#8]) active).link.replies.getLast?.map fun sl => sl.reply) = some (.done 0) := by
  refine ⟨ready_active, by decide +kernel, by decide, rfl, by decide +kernel⟩

/-! ### CLEAR, CREDIT and RESTART -/

theorem witness_ClearClearsTheNamedConditions : Ready busy ∧ (1023#16).toNat < 1024 ∧ 1024 ≤ (1024#16).toNat := by
  unfold Ready; decide +kernel

theorem witness_CreditIsGrantedOrRevoked : Ready busy ∧ (0#8).toNat ≤ 8 ∧ (8#8).toNat ≤ 8 ∧ 8 < (9#8).toNat := by
  unfold Ready; decide +kernel

theorem witness_RestartStartsDraining : Ready busy ∧ Ready active := by unfold Ready; decide +kernel

/-! ### The Host Link -/

/-- SERVING with the receiver in COLLECTING. -/
def collecting (held : List Byte) : State := serving.setLink { serving.link with receiver := .collecting held }

theorem witness_HostFrameIsItsMessage :
    serving.control.state = .serving ∧ serving.link.receiver = .hunting ∧ ([4#8, 0#8] ++ zeros 91).length = 93 ∧
    messageBody (.set 1#8 0#8 4#8 0#8 (zeros 91)) = some (0x06#8 :: 1#8 :: 0#8 :: ([4#8, 0#8] ++ zeros 91)) ∧ Ready serving ∧
    ∀ body ∈ [[0#8, 1#8, 0#8], [0x0B#8, 1#8, 0#8], [0x0A#8, 1#8, 0#8, 0#8], [0x07#8, 1#8, 0#8, 0x40#8, 0#8, 0#8],
        [0x01#8, 1#8, 0#8, 0#8, 5#8, 7#8, 2#8], [0x05#8, 1#8, 0#8, 0#8, 3#8], [0x04#8, 1#8, 0#8, 2#8]],
      ∀ d : Instr, messageBody d ≠ some body := by
  refine ⟨rfl, rfl, by decide, by decide +kernel, ready_serving, ?_⟩
  intro body hb d h
  simp only [List.mem_cons, List.not_mem_nil, or_false] at hb
  rcases hb with rfl | rfl | rfl | rfl | rfl | rfl | rfl <;> cases d <;> simp [messageBody, bytes16] at h

theorem witness_BytesAreHeldAndFailedFramesCounted :
    State.reset.control.state ≠ .serving ∧ serving.control.state = .serving ∧ serving.link.receiver = .hunting ∧ QueuesSound serving ∧
    (∀ held : List Byte, (collecting held).control.state = .serving ∧ (collecting held).link.receiver = .collecting held ∧
      QueuesSound (collecting held)) ∧
    (∀ l more, [] ++ [96#8] = l :: more → 3 ≤ l.toNat ∧ l.toNat ≤ 96 ∧ more.length < l.toNat + 2) ∧
    (∀ l more, [3#8, 0#8, 0#8, 0#8] ++ [0#8] = l :: more → 3 ≤ l.toNat ∧ l.toNat ≤ 96 ∧ more.length < l.toNat + 2) ∧
    ReceiverSound (collecting []) ∧ ReceiverSound (collecting [3#8, 0xA5#8]) ∧ 0xA5#8 ∉ [3#8, 0#8] ∧
    (2#8 : Byte).toNat < 3 ∧ 96 < (97#8 : Byte).toNat ∧
    ∀ l ∈ [3#8, 96#8], 3 ≤ l.toNat ∧ l.toNat ≤ 96 ∧ ∃ c : Byte, (zeros l.toNat ++ [c, c]).length = l.toNat + 2 ∧
      (zeros l.toNat ++ [c, c]).drop l.toNat ≠ bytes16 (crc16 (l :: (zeros l.toNat ++ [c, c]).take l.toNat)) := by
  have hq : QueuesSound serving := by
    simp only [QueuesSound]
    exact ⟨by decide +kernel, by decide +kernel, by decide +kernel, by decide +kernel, by simp [serving, State.reset, resetLink, State.setControl]⟩
  refine ⟨by decide +kernel, rfl, rfl, hq, fun held => ⟨rfl, rfl, hq⟩, ?_, ?_, ?_, ?_, by decide +kernel, by decide, by decide, ?_⟩
  · intro l more h; cases h; decide
  · intro l more h; cases h; decide
  · intro l more h; cases h
  · intro l more h; cases h; decide
  · intro l hl
    have hz (c : Byte) : (zeros l.toNat ++ [c, c]).drop l.toNat = [c, c] ∧ (zeros l.toNat ++ [c, c]).take l.toNat = zeros l.toNat := by
      simp [zeros]
    refine ⟨by revert l; decide, by revert l; decide, ?_⟩
    by_cases h : bytes16 (crc16 (l :: zeros l.toNat)) = [0#8, 0#8]
    · exact ⟨1#8, by simp [zeros], by rw [(hz _).1, (hz _).2, h]; decide⟩
    · exact ⟨0#8, by simp [zeros], by rw [(hz _).1, (hz _).2]; exact Ne.symm h⟩

/-- SERVING with the Reply Queue full and so many frames waiting. -/
def fullQueues (frames : Nat) : State :=
  let s := sendingReply serving 8
  s.setLink { s.link with intake := List.replicate frames { kind := 0x0A#8, sequence := 0#8, originator := 0#8, fields := [] } }

theorem witness_FramesWaitWhileTheReplyQueueIsFull :
    messageBody (.get 1#8 9#8 0x40#8 0#8) = some (0x07#8 :: 1#8 :: 9#8 :: [0x40#8, 0#8]) ∧ State.reset.control.state ≠ .serving ∧
    ∀ n ∈ [0, 3, 4], (fullQueues n).control.state = .serving ∧ (fullQueues n).link.replies.length = 8 ∧
      (fullQueues n).link.transmitter = .sending .reply [] ∧ (fullQueues n).link.intake.length = n := by
  decide +kernel

/-- The Reply Queue of a state that sends a reply is sound. -/
theorem queues_sendingReply {s : State} {bytes : List Byte} {sl : Slot} {rest : List Slot} (hi : s.link.intake.length ≤ 4)
    (hf : s.link.intake ≠ [] → s.control.state = .serving ∧ s.link.replies.length = 8) (hr : s.link.replies = sl :: rest)
    (hn : rest.length < 8) (hsl : sl.sending = true) (hrest : ∀ x ∈ rest, x.sending = false)
    (ht : s.link.transmitter = .sending .reply bytes) : QueuesSound s := by
  refine ⟨hi, ?_, hf, ?_, ?_⟩
  · rw [hr]; exact hn
  · rw [hr]; exact hrest
  · rw [hr, ht]; exact ⟨fun _ => ⟨bytes, rfl⟩, fun _ => ⟨sl, rfl, hsl⟩⟩

/-- A state with nothing queued, in which the transmitter sends no reply. -/
theorem queues_empty {s : State} (hi : s.link.intake = []) (hr : s.link.replies = [])
    (ht : ∀ bytes, s.link.transmitter ≠ .sending .reply bytes) : QueuesSound s := by
  refine ⟨by simp [hi], by simp [hr], by simp [hi], by simp [hr], ?_⟩
  simp [hr, ht]

/-- An ALERT is due and nothing is sent. -/
def alertDue : State := serving.setAlerts { serving.alerts with reporting := true, due := true }

theorem witness_TransmitterChoosesInOrder : QueuesSound busy ∧ QueuesSound alertDue ∧ QueuesSound State.reset :=
  ⟨queues_busy, queues_empty rfl rfl (fun _ h => by cases h), queues_empty rfl rfl (fun _ h => by cases h)⟩

/-- SERVING with the transmitter in a state. -/
def transmitting (x : Transmitter) : State := serving.setLink { serving.link with transmitter := x }

/-- ANNOUNCING, READY on HTX. -/
def announcing : State :=
  (State.reset.setControl { state := .announcing, rstnHigh := true, startUp := false, readyBegun := false }).setLink
    { State.reset.link with transmitter := .sending (.ready true) [] }

theorem witness_FrameEndFreesTheTransmitter_reply :
    ∀ n ∈ [0, 4], LinkSound (fullQueues n) ∧ (fullQueues n).link.transmitter = .sending .reply [] ∧
      (∃ sl slots, (fullQueues n).link.replies = sl :: slots ∧ sl.ofRestart = false) ∧ (fullQueues n).link.intake.length = n := by
  intro n hn
  simp only [List.mem_cons, List.not_mem_nil, or_false] at hn
  rcases hn with rfl | rfl
  · refine ⟨link_of_serving rfl (fun l more h => by cases h) ?_ (fun h => by cases h) (fun _ _ h => by cases h) (by decide +kernel),
      rfl, ⟨_, _, rfl, rfl⟩, rfl⟩
    exact queues_sendingReply (by decide) (by decide +kernel) rfl (by decide) rfl (by decide +kernel) rfl
  · refine ⟨link_of_serving rfl (fun l more h => by cases h) ?_ (fun h => by cases h) (fun _ _ h => by cases h) (by decide +kernel),
      rfl, ⟨_, _, rfl, rfl⟩, rfl⟩
    exact queues_sendingReply (by decide) (by decide +kernel) rfl (by decide) rfl (by decide +kernel) rfl

theorem witness_FrameEndFreesTheTransmitter :
    (LinkSound serving ∧ serving.link.transmitter = .idle) ∧
    (∀ source ∈ [Source.alert, .notice], LinkSound (transmitting (.sending source [])) ∧
      (transmitting (.sending source [])).link.transmitter = .sending source []) ∧
    LinkSound announcing ∧ announcing.link.transmitter = .sending (.ready true) [] := by
  refine ⟨⟨?_, rfl⟩, ?_, ?_, rfl⟩
  · exact link_of_serving rfl (fun l more h => by cases h) (queues_empty rfl rfl (fun _ h => by cases h))
      (fun _ => ⟨by decide, fun _ => ⟨rfl, rfl, Or.inl rfl⟩⟩) (fun _ _ h => by cases h) (by decide +kernel)
  · intro source hs
    simp only [List.mem_cons, List.not_mem_nil, or_false] at hs
    rcases hs with rfl | rfl <;>
    exact ⟨link_of_serving rfl (fun l more h => by cases h) (queues_empty rfl rfl (fun _ h => by cases h)) (fun h => by cases h)
      (fun _ _ h => by cases h) (by decide +kernel), rfl⟩
  · refine ⟨fun l more h => (by cases h), queues_empty rfl rfl (fun _ h => by cases h), fun h => (by cases h), ?_, ?_⟩
    · exact ⟨⟨fun _ => ⟨true, [], rfl⟩, fun _ => rfl⟩, fun _ => rfl, ⟨fun h => (by cases h), fun ⟨sl, h, _⟩ => by cases h⟩,
        by decide +kernel, ⟨fun h => (by cases h), fun h => by revert h; decide +kernel⟩⟩
    · unfold AtRest; decide +kernel

theorem witness_RestartEventResetsEveryBlock :
    let sl : Slot := { replyTo 1#8 0#8 (.done 0) with ofRestart := true, sending := true }
    let s := active.setLink { active.link with transmitter := .sending .reply sl.bytes, replies := [sl] }
    s.link.transmitter = .sending .reply sl.bytes ∧ s.link.replies = [sl] ∧ sl.sending = true ∧ sl.ofRestart = true := by
  decide +kernel

/-! ### Power and reset -/

theorem witness_RelayLeavesHeldAnnouncing :
    (State.reset.control.state = .held ∧ State.reset.control.startUp = true) ∧ serving.control.startUp = false ∧
    ((after .rstnLow serving).control.state = .held ∧ (after .rstnLow serving).control.rstnHigh = false) ∧
    serving.control.rstnHigh = true ∧ announcing.link.transmitter = .sending (.ready true) [] ∧
    ∀ b bytes, serving.link.transmitter ≠ .sending (.ready b) bytes :=
  ⟨by decide +kernel, rfl, by decide +kernel, rfl, rfl, fun _ _ h => by cases h⟩

/-! ### Timers -/

/-- The transmitter of `fiveStates` has nothing to send. -/
theorem transmitter_fiveStates : TransmitterSound (fiveStates 100) :=
  fun _ => ⟨by decide +kernel, fun _ => ⟨rfl, rfl, Or.inl rfl⟩⟩

theorem witness_TableTimersFreeTheirEntries :
    TableBounded (fiveStates 100) ∧ TransmitterSound (fiveStates 100) ∧
    (∃ e ∈ (fiveStates 100).table.entries, e.key = { readKey with item := 3 } ∧ e.state.isHeld = true) ∧
    (∀ x ∈ (fiveStates 100).table.entries, x.key = { readKey with item := 0 } → x.state.isHeld = false) ∧
    (∃ e ∈ (fiveStates 100).table.entries, e.key = { readKey with item := 4 } ∧ e.state.isDelivered = true) ∧
    (∀ x ∈ (fiveStates 100).table.entries, x.key = { readKey with item := 3 } → x.state.isDelivered = false) :=
  ⟨by unfold TableBounded; decide +kernel, transmitter_fiveStates, by decide +kernel, by decide +kernel, by decide +kernel,
    by decide +kernel⟩

/-! ### Attempts -/

theorem witness_ResponsesAreJudged :
    let read : Job := { readJob .receiving 1 with length := 32 }
    let poll : Job := { readJob .receiving 1 with kind := .poll, operation := .poll, length := 0, limit := 1 }
    read.operation = .read ∧ (zeros 32).length = read.length ∧ (zeros 32).length ≤ 32 ∧ poll.operation ≠ .read ∧ (1#8 : Byte) ≠ 0#8 ∧
    poll.operation = .poll ∧ (1 ≤ (1#8 : Byte).toNat ∧ (1#8 : Byte).toNat ≤ 63) ∧ (1 ≤ (63#8 : Byte).toNat ∧ (63#8 : Byte).toNat ≤ 63) ∧
    (∀ d, read.judge (spell [5#8, 2#8, crc8 [5#8, 2#8]]) ≠ .garbled d) ∧
    crc8 (9#8 :: 1#8 :: zeros 32) + 1#8 ≠ crc8 (9#8 :: 1#8 :: zeros 32) ∧
    read.judge (spell (9#8 :: 1#8 :: zeros 32 ++ [crc8 (9#8 :: 1#8 :: zeros 32) + 1#8])) = .garbled (some (zeros 32)) := by
  refine ⟨rfl, by decide +kernel, by decide +kernel, by decide, by decide, rfl, by decide, by decide, ?_, by decide +kernel,
    by decide +kernel⟩
  intro d h
  rw [show Job.judge _ _ = AttemptResult.busy by decide +kernel] at h
  cases h

/-- The transmitter of a state on a span alone has nothing to send. -/
theorem transmitter_quiet {s : State} (hc : s.control = serving.control) (hl : s.link = serving.link) (ha : s.alerts = serving.alerts)
    (hn : s.notices = serving.notices) : TransmitterSound s := by
  intro _
  rw [hc, hl, ha, hn]
  exact ⟨by decide, fun _ => ⟨rfl, rfl, Or.inl rfl⟩⟩

theorem witness_AttemptGoesThroughItsPhases :
    ((active.span 0).job = none ∧ TransmitterSound active) ∧
    ∀ p ∈ [Phase.turnaround 10, .backoff 5, .sending [], .window 10, .receiving],
      ((reading p 1).span 0).job = some (readJob p 1) ∧ TransmitterSound (reading p 1) :=
  ⟨⟨rfl, transmitter_quiet rfl rfl rfl rfl⟩, fun p hp => ⟨by revert p; decide +kernel, transmitter_quiet rfl rfl rfl rfl⟩⟩

theorem witness_AttemptIsTriedAgain :
    (EndsAttempt (.responseWindowExpiry 0) 0 (readJob (.window 10) 3) .silent true ∧ ¬ EndsJob (readJob (.window 10) 3) .silent ∧
      ((reading (.window 10) 3).span 0).job = some (readJob (.window 10) 3) ∧ TransmitterSound (reading (.window 10) 3)) ∧
    (EndsAttempt (.responseFrameEnd 0 (spell [5, 2, crc8 [5, 2]])) 0 (readJob .receiving 1) .busy true ∧
      ¬ EndsJob (readJob .receiving 1) .busy) ∧
    (EndsAttempt (.responseCharacter37 0) 0 (readJob .receiving 1) (.garbled none) false ∧
      ¬ EndsJob (readJob .receiving 1) (.garbled none)) ∧
    ((reading .receiving 1).span 0).job = some (readJob .receiving 1) ∧ TransmitterSound (reading .receiving 1) ∧
    (readJob .receiving 1).kind ≠ .poll := by
  refine ⟨⟨Or.inl ⟨rfl, ⟨10, rfl⟩, rfl, rfl⟩, ?_, by decide +kernel, transmitter_quiet rfl rfl rfl rfl⟩,
    ⟨Or.inr (Or.inl ⟨_, rfl, rfl, by decide +kernel, rfl⟩), ?_⟩, ⟨Or.inr (Or.inr ⟨rfl, rfl, rfl, rfl⟩), ?_⟩, by decide +kernel,
    transmitter_quiet rfl rfl rfl rfl, by decide⟩ <;>
  simp [EndsJob, readJob]

theorem witness_DeferredJobHandsOverItsOutcome :
    ((reading (.window 10) 4).span 0).job = some (readJob (.window 10) 4) ∧
    EndsAttempt (.responseWindowExpiry 0) 0 (readJob (.window 10) 4) .silent true ∧ (readJob (.window 10) 4).kind = .deferred ∧
    EndsJob (readJob (.window 10) 4) .silent ∧ EndsJob (readJob .receiving 1) (.done [1#8, 2#8]) :=
  ⟨by decide +kernel, Or.inl ⟨rfl, ⟨10, rfl⟩, rfl, rfl⟩, rfl, Or.inr (Or.inr (by decide)), Or.inl ⟨_, rfl⟩⟩

theorem witness_PostJobHandsOverItsOutcome :
    ∃ j, ((posting .receiving 4).span 0).job = some j ∧ EndsAttempt (.responseCharacter37 0) 0 j (.garbled none) false ∧ j.kind = .post ∧
      j.operation = .write ∧ EndsJob j (.garbled none) ∧ EndsJob j (.refused 1#8) ∧ ((posting .receiving 4).span 0).posts = post3 true :: [] :=
  ⟨_, rfl, Or.inr (Or.inr ⟨rfl, rfl, rfl, rfl⟩), rfl, rfl, Or.inr (Or.inr (by decide)), Or.inr (Or.inl ⟨_, rfl⟩), rfl⟩

theorem witness_PollJobHandsOverItsOutcome :
    ∃ j, ((polling .receiving).span 0).job = some j ∧
      EndsAttempt (.responseFrameEnd 0 (spell [3, 4, 63, 1, 2, crc8 [3, 4, 63, 1, 2]])) 0 j (.notice 63#8 258) true ∧ j.kind = .poll :=
  ⟨_, rfl, Or.inr (Or.inl ⟨_, rfl, rfl, by decide +kernel, rfl⟩), rfl⟩

theorem witness_RosterTakesReports :
    RosterSound (polling .receiving) ∧ (∀ r ∈ ((polling .receiving).span 0).roster, r.address ≠ 4) ∧
    ∃ r ∈ ((polling .receiving).span 0).roster, r.address = 3 := by
  unfold RosterSound SpanUnit.RosterSound; decide +kernel

theorem witness_LineFaultTakesTheSpanOutOfService :
    SubjectsSound (reading .receiving 1) ∧ TransmitterSound (reading .receiving 1) ∧
    ((reading .receiving 1).span 0).state.isOpen = true ∧ ((reading .receiving 1).span 1).state.isOpen = false :=
  ⟨by unfold SubjectsSound; decide +kernel, transmitter_quiet rfl rfl rfl rfl, by decide +kernel, by decide +kernel⟩

/-! ### The scheduler -/

/-- Span 0 free and ACTIVE with posts, a roster node, an eligible entry, and the scheduler's counts. -/
def deciding (posts : List Post) (entries : List Entry) (runCount passOver : Nat) (timer : PollTimer) : State :=
  (active.setSpan 0
    { freeUnit with
      posts, roster := [node3 .present 0]
      scheduler := { freeUnit.scheduler with runCount, passOver, pollTimer := timer } }).setEntries entries

theorem witness_SchedulerTakesTheFirstStep :
    ((serving.span 0).state ≠ .active) ∧ ((reading .receiving 1).span 0).job ≠ none ∧
    (let s := deciding [post3 false] [readEntry .queued] 0 2 .expired
     (s.span 0).state = .active ∧ (s.span 0).job = none ∧
     ((s.span 0).scheduler.pollTimer == .expired && !(s.span 0).roster.isEmpty && (s.span 0).params.pollMs != 0) = true ∧
     (s.span 0).scheduler.passOver = 2) ∧
    (let s := deciding [post3 false] [readEntry .queued] 3 1 .expired
     (s.span 0).posts = post3 false :: [] ∧ (s.span 0).scheduler.runCount < s.params.postBurst ∧ (s.span 0).scheduler.passOver ≠ 2) ∧
    (let s := deciding [post3 false] [readEntry .queued] 4 0 .expired
     s.params.postBurst ≤ (s.span 0).scheduler.runCount ∧ TableBounded s ∧
     (s.table.entries.any fun e => e.state == .queued && e.barrier == 0 && e.span == 0) = true) ∧
    let s := deciding [] [] 4 0 .expired
    (s.span 0).posts = [] ∧ (s.table.entries.any fun e => e.state == .queued && e.barrier == 0 && e.span == 0) = false := by
  unfold TableBounded; decide +kernel

theorem witness_ArbiterSearchesTheRings :
    let tier := active.params.tier
    let cand : Fin 8 → Bool := fun o => o == 0 || o == 5
    cand 5 = true ∧ arbitrate tier cand 8 7 = some (0, 0, 7) ∧ arbitrate tier cand 0 7 = some (5, 8, 5) := by
  decide +kernel

theorem witness_PollGoesRoundTheRoster :
    let u (position : Nat) : SpanUnit := { freeUnit with roster := [node3 .present 0, { node3 .lost 3 with address := 15 }], pollPosition := position }
    (∀ p ∈ [0, 3, 15], (u p).RosterSound ∧ (u p).roster ≠ []) ∧ (∃ r ∈ (u 3).roster, (u 3).pollPosition < r.address) ∧
    ∀ r ∈ (u 15).roster, r.address ≤ (u 15).pollPosition := by
  unfold SpanUnit.RosterSound; decide +kernel

/-! ### Router, Notice Queue and Alert Unit -/

theorem witness_UnitsResolve :
    RoutesSound busy.router ∧ 4095 ≤ 4095 ∧ busy.router.window 0 = some window0 ∧ window0.first ≤ 1 ∧ 15 ≤ window0.last ∧
    (∀ i w, busy.router.window i = some w → ¬ (w.first ≤ 4095 ∧ 4095 ≤ w.last)) ∧ busy.router.defaultSpan = none ∧
    ({ busy.router with defaultSpan := some 3 } : Router).defaultSpan = some 3 := by
  refine ⟨witness_RoutesStaySound, by decide, rfl, by decide, by decide, ?_, rfl, rfl⟩
  intro i w h
  rw [busy_window] at h
  split at h
  · cases h; decide
  · cases h

/-- A full Notice Queue. -/
def fullNotices : State :=
  active.setNotices
    { entries := (List.range 24).map fun i => { span := 1, node := 1, kind := i + 1, value := 0, count := 255 }, credit := 0, lost := 0 }

theorem witness_OffersCoalesceJoinOrOverflow :
    (∀ s ∈ [busy, fullNotices],
      s.notices.entries.Pairwise fun a b => ¬ (a.span = b.span ∧ a.node = b.node ∧ a.kind = b.kind)) ∧
    (∃ n, busy.notices.entries = [] ++ n :: [] ∧ n.span = 0 ∧ n.node = 3 ∧ n.kind = 65) ∧
    (∀ n ∈ busy.notices.entries, ¬ (n.span = 1 ∧ n.node = 1 ∧ n.kind = 64)) ∧ busy.notices.entries.length < 24 ∧
    (∀ n ∈ fullNotices.notices.entries, ¬ (n.span = 1 ∧ n.node = 1 ∧ n.kind = 64)) ∧ fullNotices.notices.entries.length = 24 := by
  refine ⟨by decide +kernel, ⟨_, rfl, rfl, rfl, rfl⟩, ?_⟩
  decide +kernel

theorem witness_RaisesAreRecorded : AlertsSound busy ∧ AlertsSound active := by
  refine ⟨witness_AlertsStaySound, ?_⟩
  unfold AlertsSound Condition.Sound; decide +kernel

end Sys2Proof.Tests
end

/-! The judging of a response (R69): what `Job.judge` gives for each list of characters, and what Table 4-3 makes of a frame whose check
is right. -/

namespace Sys2Proof.Machine

/-! ## Characters without framing errors -/

/-- The characters that carry these bytes without a framing error: the only ones that `Job.judge` reads. -/
def cleanChars (bytes : List Byte) : List LineChar := bytes.map fun b => { value := b, framingError := false }

@[simp] theorem cleanChars_length (bytes : List Byte) : (cleanChars bytes).length = bytes.length := by
  simp [cleanChars]

@[simp] theorem cleanChars_values (bytes : List Byte) : (cleanChars bytes).map (fun c => c.value) = bytes := by
  rw [cleanChars, List.map_map]
  exact List.map_id bytes

@[simp] theorem cleanChars_any_framingError (bytes : List Byte) : (cleanChars bytes).any (fun c => c.framingError) = false := by
  simp [cleanChars]

theorem cleanChars_of_values {chars : List LineChar} (h : chars.any (fun c => c.framingError) = false) :
    cleanChars (chars.map fun c => c.value) = chars := by
  simp only [List.any_eq_false, Bool.not_eq_true] at h
  rw [cleanChars, List.map_map]
  exact (List.map_congr_left fun c hc => by simp [← h c hc]).trans (List.map_id chars)

/-! ## Job.judge -/

/-- R69 for a frame of 3 to 36 characters without framing errors: its check, then its node address, then its answer. -/
theorem Job.judge_cleanChars (j : Job) (node answer check : Byte) {middle : List Byte} (h : middle.length ≤ 33) :
    j.judge (cleanChars (node :: answer :: middle ++ [check])) =
      if crc8 (node :: answer :: middle) ≠ check then .garbled (j.dataBearing answer middle)
      else if node ≠ byteOf j.node then .garbled none
      else j.readAnswer answer middle := by
  obtain ⟨first, rest, hs⟩ : ∃ first rest, middle ++ [check] = first :: rest := List.exists_cons_of_ne_nil (by simp)
  have hmiddle : (first :: rest).dropLast = middle := by rw [← hs, List.dropLast_concat]
  have hcheck : (first :: rest).getLastD 0 = check := by rw [← hs, List.getLastD_concat]
  have hlimit : ¬ Config.responseLimit < (node :: answer :: middle ++ [check]).length := by simp [Config.responseLimit]; omega
  simp only [Job.judge, cleanChars_any_framingError, cleanChars_length, cleanChars_values, hlimit, decide_false, Bool.or_self,
    Bool.false_eq_true, if_false]
  simp only [List.cons_append, hs, hmiddle, hcheck]

/-- R69: a list of characters is GARBLED with nothing unless it is a frame of 3 to 36 characters without framing errors. -/
theorem Job.judge_garbled_or_cleanChars (j : Job) (chars : List LineChar) :
    j.judge chars = .garbled none ∨
      ∃ node answer middle check, chars = cleanChars (node :: answer :: middle ++ [check]) ∧ middle.length ≤ 33 := by
  by_cases hbad : (chars.any (fun c => c.framingError) || decide (Config.responseLimit < chars.length)) = true
  · exact .inl (if_pos hbad)
  simp only [Bool.or_eq_true, decide_eq_true_eq, not_or, Bool.not_eq_true] at hbad
  obtain ⟨hclean, hlimit⟩ := hbad
  rw [← cleanChars_of_values hclean] at hlimit ⊢
  generalize chars.map (fun c => c.value) = bytes at hlimit ⊢
  match bytes with
  | [] | [_] | [_, _] => exact .inl (by simp [Job.judge])
  | node :: answer :: first :: rest =>
    refine .inr ⟨node, answer, (first :: rest).dropLast, (first :: rest).getLast (by simp), ?_, ?_⟩
    · rw [List.cons_append, List.cons_append, List.dropLast_append_getLast]
    · simp [Config.responseLimit] at hlimit ⊢; omega

/-- R69: a frame whose check and node address are right is taken for its answer. -/
theorem Job.judge_of_check (j : Job) (answer : Byte) (middle : List Byte) (h : middle.length ≤ 33) :
    j.judge (cleanChars (byteOf j.node :: answer :: middle ++ [crc8 (byteOf j.node :: answer :: middle)])) =
      j.readAnswer answer middle := by
  rw [j.judge_cleanChars _ _ _ h, if_neg (not_not.mpr rfl), if_neg (not_not.mpr rfl)]

/-! ## Job.readAnswer -/

section
variable (j : Job)

@[simp] theorem Job.readAnswer_done (middle : List Byte) :
    j.readAnswer 1#8 middle =
      if j.operation = .read then if middle.length = j.length then .done middle else .garbled none
      else if middle = [] then .done [] else .garbled none := rfl

@[simp] theorem Job.readAnswer_busy : j.readAnswer 2#8 [] = .busy := rfl

@[simp] theorem Job.readAnswer_refused (c : Byte) :
    j.readAnswer 3#8 [c] = if c = 0#8 then .garbled none else .refused c := rfl

@[simp] theorem Job.readAnswer_notice (kind h l : Byte) :
    j.readAnswer 4#8 [kind, h, l] =
      if j.operation = .poll ∧ 1 ≤ kind.toNat ∧ kind.toNat ≤ 63 then .notice kind (number16 h l) else .garbled none := rfl

@[simp] theorem Job.readAnswer_nothing :
    j.readAnswer 5#8 [] = if j.operation = .poll then .nothing else .garbled none := rfl

theorem Job.readAnswer_unknown {answer : Byte} (middle : List Byte) (h : answer ∉ [1#8, 2#8, 3#8, 4#8, 5#8]) :
    j.readAnswer answer middle = .garbled none := by
  unfold Job.readAnswer
  generalize hn : answer.toNat = n
  match n with
  | 0 | _ + 6 => rfl
  | 1 | 2 | 3 | 4 | 5 => exact absurd (by simp [← BitVec.toNat_inj, hn]) h

end

/-- Table 4-3: `middle` is what an answer allowed to the job's operation carries. -/
def Job.WellShaped (j : Job) (answer : Byte) (middle : List Byte) : Prop :=
  (answer = 1#8 ∧ if j.operation = .read then middle.length = j.length else middle = []) ∨ (answer = 2#8 ∧ middle = []) ∨
    (∃ c, answer = 3#8 ∧ middle = [c] ∧ c ≠ 0#8) ∨
    (∃ kind h l : Byte, j.operation = .poll ∧ answer = 4#8 ∧ middle = [kind, h, l] ∧ 1 ≤ kind.toNat ∧ kind.toNat ≤ 63) ∨
    (j.operation = .poll ∧ answer = 5#8 ∧ middle = [])

/-- A frame whose check has passed keeps no data when its shape is wrong, and is not GARBLED when its shape is right. -/
theorem Job.readAnswer_garbled_or_wellShaped (j : Job) (answer : Byte) (middle : List Byte) :
    j.readAnswer answer middle = .garbled none ∨
      (j.WellShaped answer middle ∧ ∀ d, j.readAnswer answer middle ≠ .garbled d) := by
  by_cases known : answer ∈ [1#8, 2#8, 3#8, 4#8, 5#8]
  case neg => exact .inl (j.readAnswer_unknown middle known)
  simp only [List.mem_cons, List.not_mem_nil, or_false] at known
  obtain rfl | rfl | rfl | rfl | rfl := known
  · -- DONE
    rw [j.readAnswer_done, Job.WellShaped]
    split_ifs <;> simp_all
  · -- BUSY
    match middle with
    | [] => simp [Job.WellShaped]
    | _ :: _ => exact .inl rfl
  · -- REFUSED
    match middle with
    | [c] => by_cases hc : c = 0#8 <;> simp [Job.WellShaped, hc]
    | [] | _ :: _ :: _ => exact .inl rfl
  · -- NOTICE
    match middle with
    | [kind, h, l] =>
      by_cases hkind : j.operation = .poll ∧ 1 ≤ kind.toNat ∧ kind.toNat ≤ 63
      · exact .inr ⟨by simp [Job.WellShaped, hkind], by simp [hkind]⟩
      · exact .inl (if_neg hkind)
    | [] | [_] | [_, _] | _ :: _ :: _ :: _ :: _ => exact .inl rfl
  · -- NONE
    match middle with
    | [] => by_cases hpoll : j.operation = .poll <;> simp [Job.WellShaped, hpoll]
    | _ :: _ => exact .inl rfl

/-! ## What a judgement says of the characters (O48) -/

/-- R69, Table 4-3: a response that is not GARBLED has the right check, the right node address and the shape of its answer. -/
theorem Job.spells_of_judge_ne_garbled {j : Job} {chars : List LineChar} (h : ∀ d, j.judge chars ≠ .garbled d) :
    ∃ answer middle,
      chars = cleanChars (byteOf j.node :: answer :: middle ++ [crc8 (byteOf j.node :: answer :: middle)]) ∧
        j.WellShaped answer middle := by
  obtain hg | ⟨node, answer, middle, check, rfl, hlen⟩ := j.judge_garbled_or_cleanChars chars
  · exact absurd hg (h none)
  rw [j.judge_cleanChars _ _ _ hlen] at h
  split_ifs at h with hcheck hnode
  · exact absurd rfl (h _)
  · exact absurd rfl (h _)
  obtain rfl := not_not.mp hcheck
  obtain rfl := not_not.mp hnode
  obtain hg | ⟨hshape, -⟩ := j.readAnswer_garbled_or_wellShaped answer middle
  · exact absurd hg (h none)
  · exact ⟨answer, middle, rfl, hshape⟩

/-- R69: a GARBLED response that keeps data is a READ's DONE that failed its check. -/
theorem Job.dataBearing_of_judge_garbled_some {j : Job} {chars : List LineChar} {d : List Byte}
    (h : j.judge chars = .garbled (some d)) :
    j.operation = .read ∧ ∃ first check, chars = cleanChars (first :: 1#8 :: d ++ [check]) ∧ d.length = j.length ∧
      check ≠ crc8 (first :: 1#8 :: d) := by
  obtain hg | ⟨node, answer, middle, check, rfl, hlen⟩ := j.judge_garbled_or_cleanChars chars
  · simp [hg] at h
  rw [j.judge_cleanChars _ _ _ hlen] at h
  split_ifs at h with hcheck hnode
  · simp only [Job.dataBearing, AttemptResult.garbled.injEq, Option.ite_none_right_eq_some, Option.some.injEq] at h
    obtain ⟨⟨hread, hlength, rfl⟩, rfl⟩ := h
    exact ⟨hread, node, check, rfl, hlength, Ne.symm hcheck⟩
  · simp at h
  · obtain hg | ⟨-, hne⟩ := j.readAnswer_garbled_or_wellShaped answer middle
    · simp [hg] at h
    · exact absurd h (hne _)

/-- R69: a READ's DONE that failed its check alone keeps its data; the node address is not examined. -/
theorem Job.judge_of_check_failed {j : Job} {first check : Byte} {d : List Byte} (hread : j.operation = .read)
    (hd : d.length = j.length) (hlen : d.length ≤ 33) (hcheck : check ≠ crc8 (first :: 1#8 :: d)) :
    j.judge (cleanChars (first :: 1#8 :: d ++ [check])) = .garbled (some d) := by
  rw [j.judge_cleanChars _ _ _ hlen, if_pos hcheck.symm, Job.dataBearing, if_pos ⟨hread, hd, rfl⟩]

/-- Settles O48: each answer by its row of `Job.readAnswer`, the converses by the lemmas above. -/
theorem responsesAreJudged : Obligations.ResponsesAreJudged := by
  intro j chars body check
  refine ⟨fun d hread hd hlen => ?done, fun hread => ?doneEmpty, ?busy, fun c hc => ?refused, fun kind h l hpoll hlow hhigh => ?notice,
    fun hpoll => ?none, Job.spells_of_judge_ne_garbled, ?dataKept, fun d => Job.dataBearing_of_judge_garbled_some⟩
  case done => exact (j.judge_of_check 1#8 d (by omega)).trans (by simp [hread, hd])
  case doneEmpty => exact (j.judge_of_check 1#8 [] (by simp)).trans (by simp [hread])
  case busy => exact (j.judge_of_check 2#8 [] (by simp)).trans j.readAnswer_busy
  case refused => exact (j.judge_of_check 3#8 [c] (by simp)).trans (by simp [hc])
  case notice => exact (j.judge_of_check 4#8 [kind, h, l] (by simp)).trans (by simp [hpoll, hlow, hhigh, number16])
  case none => exact (j.judge_of_check 5#8 [] (by simp)).trans (by simp [hpoll])
  case dataKept =>
    rintro first d hread rfl hd hlen hcheck
    exact Job.judge_of_check_failed hread hd (by omega) hcheck

end Sys2Proof.Machine

/-! Unit routing (R102, R103): which window `Router.windowOf` finds, and what `Router.resolve` answers for it. -/

namespace Sys2Proof.Machine

/-! ## The indexes and what a window holds -/

theorem mem_windowNumbers (i : Fin 8) : i ∈ windowNumbers := by
  revert i
  decide

@[simp] theorem Window.holds_iff (w : Window) (unit : Nat) : w.holds unit = true ↔ w.first ≤ unit ∧ unit ≤ w.last := by
  simp [Window.holds]

/-! ## Router.windowOf -/

section
variable {r : Router} {unit : Nat} {w : Window}

/-- The search covers the whole Route Table: it finds nothing exactly when no entry holds the unit. -/
theorem Router.windowOf_eq_none_iff :
    r.windowOf unit = none ↔ ∀ i w, r.window i = some w → ¬ (w.first ≤ unit ∧ unit ≤ w.last) := by
  simp only [Router.windowOf, List.findSome?_eq_none_iff, mem_windowNumbers, forall_const, Option.filter_eq_none_iff, Window.holds_iff]

theorem Router.exists_window_of_windowOf (h : r.windowOf unit = some w) : ∃ i, r.window i = some w ∧ w.holds unit = true := by
  obtain ⟨i, -, hi⟩ := List.exists_of_findSome?_eq_some h
  exact ⟨i, Option.filter_eq_some_iff.mp hi⟩

/-- R102: windows are apart, so the one that holds the unit is the one the search finds, whatever its index. -/
theorem RoutesSound.windowOf_eq_some (hr : RoutesSound r) {i : Fin 8} (hw : r.window i = some w) (hu : w.holds unit = true) :
    r.windowOf unit = some w := by
  obtain ⟨-, apart⟩ := hr
  cases hfound : r.windowOf unit with
  | none => exact absurd (w.holds_iff unit |>.mp hu) (Router.windowOf_eq_none_iff.mp hfound i w hw)
  | some v =>
    obtain ⟨j, hv, huv⟩ := Router.exists_window_of_windowOf hfound
    have same : j = i := by_contra fun hne => apart j i v w unit hne hv hw ⟨huv, hu⟩
    rw [← hw, ← hv, same]

/-! ## Router.resolve -/

theorem Router.resolve_of_windowOf_eq_some (h : r.windowOf unit = some w) :
    r.resolve unit = some (w.span, w.base + (unit - w.first)) := by
  simp only [Router.resolve, h]

theorem Router.resolve_of_windowOf_eq_none (h : r.windowOf unit = none) :
    r.resolve unit = r.defaultSpan.bind fun sp => if unit % 16 = 0 then none else some (sp, unit % 16) := by
  cases hd : r.defaultSpan <;> simp only [Router.resolve, h, hd, Option.bind]

end

/-- Settles O58: the window that holds the unit is found because no other does; without one, the default span decides. -/
theorem unitsResolve : Obligations.UnitsResolve := by
  intro r u hr _
  refine ⟨fun i w hw hfirst hlast => ?inWindow, fun hout => ?outside⟩
  case inWindow =>
    have hfound := hr.windowOf_eq_some hw ((w.holds_iff u).mpr ⟨hfirst, hlast⟩)
    obtain ⟨inRange, -⟩ := hr
    obtain ⟨-, -, hbase, htop⟩ := inRange i w hw
    exact ⟨Router.resolve_of_windowOf_eq_some hfound, by omega⟩
  case outside =>
    rw [Router.resolve_of_windowOf_eq_none (Router.windowOf_eq_none_iff.mpr hout)]
    exact ⟨fun hd => by rw [hd, Option.bind_none], fun sp hd => by rw [hd, Option.bind_some]⟩

end Sys2Proof.Machine

/-! The node to poll (R114) and the start of a poll (R54, R76): the roster ascends (R112), so the first address that a search of it meets
is the smallest. -/

namespace Sys2Proof.Machine

/-! ## SpanUnit.enterTurnaround -/

section
variable (u : SpanUnit) (j : Job)

@[simp] theorem SpanUnit.enterTurnaround_scheduler : (u.enterTurnaround j).scheduler = u.scheduler := by
  unfold enterTurnaround; split <;> rfl

@[simp] theorem SpanUnit.enterTurnaround_roster : (u.enterTurnaround j).roster = u.roster := by
  unfold enterTurnaround; split <;> rfl

@[simp] theorem SpanUnit.enterTurnaround_pollPosition : (u.enterTurnaround j).pollPosition = u.pollPosition := by
  unfold enterTurnaround; split <;> rfl

@[simp] theorem SpanUnit.enterTurnaround_posts : (u.enterTurnaround j).posts = u.posts := by
  unfold enterTurnaround; split <;> rfl

@[simp] theorem SpanUnit.enterTurnaround_params : (u.enterTurnaround j).params = u.params := by
  unfold enterTurnaround; split <;> rfl

@[simp] theorem SpanUnit.enterTurnaround_state : (u.enterTurnaround j).state = u.state := by
  unfold enterTurnaround; split <;> rfl

/-- Whether the turnaround runs or is complete as it begins, only the job's attempts begun and its phase move (R64, R71). -/
theorem SpanUnit.enterTurnaround_job : ∃ begun phase, (u.enterTurnaround j).job = some { j with begun, phase } := by
  unfold enterTurnaround
  split
  · exact ⟨_, _, rfl⟩
  · exact ⟨_, _, rfl⟩

end

/-! ## SpanUnit.pollNode -/

/-- The addresses of a span's roster. -/
def SpanUnit.rosterAddresses (u : SpanUnit) : Set Nat := {a | ∃ r ∈ u.roster, r.address = a}

/-- In an ascending list of node records, the first one that a search accepts has the smallest address of all it accepts. -/
theorem address_le_of_find? {rs : List NodeRecord} (ascending : rs.Pairwise (fun a b => a.address < b.address)) {p : NodeRecord → Bool}
    {first r : NodeRecord} (hfirst : rs.find? p = some first) (hr : r ∈ rs) (hp : p r = true) : first.address ≤ r.address := by
  obtain ⟨-, before, after, rfl, hbefore⟩ := List.find?_eq_some_iff_append.mp hfirst
  obtain ⟨-, hafter, -⟩ := List.pairwise_append.mp ascending
  rcases List.mem_append.mp hr with hr | hr
  · exact absurd hp (by simpa using hbefore r hr)
  · rcases List.mem_cons.mp hr with rfl | hr
    · exact le_rfl
    · exact (List.rel_of_pairwise_cons hafter hr).le

section
variable {u : SpanUnit}

/-- R114, with a roster address above the poll position. -/
theorem SpanUnit.RosterSound.pollNode_isLeast_above (hu : u.RosterSound) (habove : ∃ r ∈ u.roster, u.pollPosition < r.address) :
    IsLeast {a ∈ u.rosterAddresses | u.pollPosition < a} u.pollNode := by
  obtain ⟨-, ascending, -⟩ := hu
  cases hfind : u.roster.find? fun r => u.pollPosition < r.address with
  | none =>
    obtain ⟨r, hr, hlt⟩ := habove
    exact absurd (decide_eq_true hlt) (List.find?_eq_none.mp hfind r hr)
  | some first =>
    have hnode : u.pollNode = first.address := by rw [pollNode, hfind]
    rw [hnode]
    refine ⟨⟨⟨first, List.mem_of_find?_eq_some hfind, rfl⟩, by simpa using List.find?_some hfind⟩, ?_⟩
    rintro _ ⟨⟨r, hr, rfl⟩, hlt⟩
    exact address_le_of_find? ascending hfind hr (decide_eq_true hlt)

/-- R114, with no roster address above the poll position: the search wraps to the head of the roster. -/
theorem SpanUnit.RosterSound.pollNode_isLeast_of_none_above (hu : u.RosterSound) (hne : u.roster ≠ [])
    (hnone : ∀ r ∈ u.roster, r.address ≤ u.pollPosition) : IsLeast u.rosterAddresses u.pollNode := by
  obtain ⟨-, ascending, -⟩ := hu
  obtain ⟨first, rest, hroster⟩ := List.exists_cons_of_ne_nil hne
  have hfind : u.roster.find? (fun r => u.pollPosition < r.address) = none :=
    List.find?_eq_none.mpr fun r hr => by simpa using hnone r hr
  have hnode : u.pollNode = first.address := by rw [pollNode, hfind, hroster]; rfl
  rw [hnode]
  refine ⟨⟨first, by simp [hroster], rfl⟩, ?_⟩
  rintro _ ⟨r, hr, rfl⟩
  have hhead : u.roster.find? (fun _ => true) = some first := by rw [hroster]; rfl
  exact address_le_of_find? ascending hhead hr rfl

/-- R114: a poll of a span with a roster goes to a node of it. -/
theorem SpanUnit.RosterSound.pollNode_mem (hu : u.RosterSound) (hne : u.roster ≠ []) : u.pollNode ∈ u.rosterAddresses := by
  by_cases habove : ∃ r ∈ u.roster, u.pollPosition < r.address
  · exact (hu.pollNode_isLeast_above habove).1.1
  · push Not at habove
    exact (hu.pollNode_isLeast_of_none_above hne habove).1

end

/-! ## SpanUnit.startPoll -/

section
variable (u : SpanUnit)

@[simp] theorem SpanUnit.startPoll_pollPosition : u.startPoll.pollPosition = u.pollNode := by simp [startPoll]

@[simp] theorem SpanUnit.startPoll_scheduler :
    u.startPoll.scheduler = { u.scheduler with pollTimer := .running u.params.pollMs, passOver := 0 } := by simp [startPoll]

@[simp] theorem SpanUnit.startPoll_roster : u.startPoll.roster = u.roster := by simp [startPoll]

@[simp] theorem SpanUnit.startPoll_posts : u.startPoll.posts = u.posts := by simp [startPoll]

@[simp] theorem SpanUnit.startPoll_params : u.startPoll.params = u.params := by simp [startPoll]

@[simp] theorem SpanUnit.startPoll_state : u.startPoll.state = u.state := by simp [startPoll]

/-- The job of a poll is that of `newJob`, but for the attempts begun and the phase. -/
theorem SpanUnit.startPoll_job :
    ∃ begun phase, u.startPoll.job = some { newJob .poll u.pollNode .poll 0#8 0 [] 1 with begun, phase } :=
  enterTurnaround_job _ _

end

/-- Settles O57: `startPoll` moves the poll position to `pollNode`, which is the smallest address above it or, with none above, of all. -/
theorem pollGoesRoundTheRoster : Obligations.PollGoesRoundTheRoster := by
  intro u hu hne v
  have hposition : v.pollPosition = u.pollNode := u.startPoll_pollPosition
  rw [hposition]
  refine ⟨hu.pollNode_mem hne, fun habove => ?above, fun hnone => ?wrap, u.startPoll_scheduler, u.startPoll_roster, u.startPoll_posts,
    u.startPoll_params, u.startPoll_state, ?job⟩
  case above =>
    obtain ⟨⟨-, hlt⟩, hleast⟩ := hu.pollNode_isLeast_above habove
    exact ⟨hlt, fun r hr hr_above => hleast ⟨⟨r, hr, rfl⟩, hr_above⟩⟩
  case wrap =>
    obtain ⟨-, hleast⟩ := hu.pollNode_isLeast_of_none_above hne hnone
    exact fun r hr => hleast ⟨r, hr, rfl⟩
  case job =>
    obtain ⟨begun, phase, hjob⟩ := u.startPoll_job
    exact ⟨_, hjob, rfl, rfl, rfl, rfl, rfl, rfl, rfl⟩

end Sys2Proof.Machine

/-! The Alert Unit (R131 to R144): what a raise leaves of it, and its soundness, which each of its own operations keeps. -/

namespace Sys2Proof.Machine

theorem mem_conditionNumbers (n : Fin 10) : n ∈ conditionNumbers := by
  revert n
  decide

/-! ## Conditions and their replacement -/

/-- A raised condition is set, whatever it was before. -/
@[simp] theorem Condition.raised_set (c : Condition) (cause : FirstCause) : (c.raised cause).set = true := by
  unfold raised
  split
  · assumption
  · rfl

@[simp] theorem Condition.raised_enable (c : Condition) (cause : FirstCause) : (c.raised cause).enable = c.enable := by
  unfold raised
  split <;> rfl

theorem Condition.Sound.raised {c : Condition} (hc : c.Sound) (cause : FirstCause) : (c.raised cause).Sound := by
  obtain ⟨hcount, -, hcause⟩ := hc
  unfold Condition.raised
  split
  · next hset => simp [Condition.Sound, saturate, Config.countTop, hset, hcause]
  · simp [Condition.Sound]

theorem Condition.sound_cleared (c : Condition) : c.cleared.Sound := by simp [Condition.Sound, cleared]

section
variable (a : AlertUnit) (n : Fin 10) (c : Condition)

/-- Some condition after a replacement is the new one, or one of the others. -/
theorem AlertUnit.exists_setCondition (P : Fin 10 → Condition → Prop) :
    (∃ m, P m ((a.setCondition n c).condition m)) ↔ P n c ∨ ∃ m, m ≠ n ∧ P m (a.condition m) := by
  simp only [setCondition_condition]
  constructor
  · rintro ⟨m, hm⟩
    split_ifs at hm with h
    · exact .inl (h ▸ hm)
    · exact .inr ⟨m, h, hm⟩
  · rintro (h | ⟨m, hne, h⟩)
    · exact ⟨n, by rwa [if_pos rfl]⟩
    · exact ⟨m, by rwa [if_neg hne]⟩

end

/-! ## The summary and the newly set conditions -/

theorem AlertUnit.summary_iff (a : AlertUnit) :
    a.summary = true ↔ a.reporting = true ∧ ∃ n, (a.condition n).enable = true ∧ (a.condition n).set = true := by
  simp [summary, mem_conditionNumbers, and_comm]

theorem newlySetEnabled_iff (old new : AlertUnit) :
    newlySetEnabled old new = true ↔
      new.reporting = true ∧ ∃ n, (old.condition n).set = false ∧ (new.condition n).set = true ∧ (new.condition n).enable = true := by
  simp [newlySetEnabled, mem_conditionNumbers, and_assoc]

section
variable (a : AlertUnit) (n : Fin 10) (cause : FirstCause)

/-- R136: a raise of an enabled condition asserts the summary while reporting is ON. -/
theorem AlertUnit.summary_setCondition_raised :
    (a.setCondition n ((a.condition n).raised cause)).summary = (a.summary || (a.reporting && (a.condition n).enable)) := by
  rw [Bool.eq_iff_iff]
  simp only [summary_iff, Bool.or_eq_true, Bool.and_eq_true, setCondition_reporting,
    a.exists_setCondition n _ fun _ c => c.enable = true ∧ c.set = true, Condition.raised_set, Condition.raised_enable, and_true]
  constructor
  · rintro ⟨hr, he | ⟨m, -, hm⟩⟩
    · exact .inr ⟨hr, he⟩
    · exact .inl ⟨hr, m, hm⟩
  · rintro (⟨hr, m, he, hset⟩ | ⟨hr, he⟩)
    · by_cases h : m = n
      · exact ⟨hr, .inl (h ▸ he)⟩
      · exact ⟨hr, .inr ⟨m, h, he, hset⟩⟩
    · exact ⟨hr, .inl he⟩

/-- R137: a raise makes its own condition newly set, and no other. -/
theorem newlySetEnabled_setCondition_raised :
    newlySetEnabled a (a.setCondition n ((a.condition n).raised cause)) =
      (a.reporting && (a.condition n).enable && !(a.condition n).set) := by
  have hothers : ¬ ∃ m, m ≠ n ∧ (a.condition m).set = false ∧ (a.condition m).set = true ∧ (a.condition m).enable = true := by
    simp_all
  rw [Bool.eq_iff_iff, newlySetEnabled_iff,
    a.exists_setCondition n _ fun m c => (a.condition m).set = false ∧ c.set = true ∧ c.enable = true]
  simp only [hothers, or_false, AlertUnit.setCondition_reporting, Condition.raised_set, Condition.raised_enable, true_and,
    Bool.and_eq_true, Bool.not_eq_true']
  tauto

/-- The summary becomes true by a raise only when the raised condition becomes set, so alert-due asks no more than that. -/
theorem AlertUnit.due_of_raise :
    (a.due || (!a.summary && (a.summary || (a.reporting && (a.condition n).enable))) ||
        (a.reporting && (a.condition n).enable && !(a.condition n).set)) =
      (a.due || (a.reporting && (a.condition n).enable && !(a.condition n).set)) := by
  cases hsummary : a.summary with
  | true => simp
  | false =>
    cases hset : (a.condition n).set with
    | false => simp
    | true =>
      have hquiet : (a.reporting && (a.condition n).enable) = false := by
        rw [Bool.eq_false_iff] at hsummary ⊢
        intro h
        obtain ⟨hr, he⟩ := Bool.and_eq_true_iff.mp h
        exact hsummary (a.summary_iff.mpr ⟨hr, n, he, hset⟩)
      simp [hquiet]

end

/-- R132, R136, R137: what a raise leaves of an Alert Unit whose ATTN is its summary. -/
theorem AlertUnit.raise_eq {a : AlertUnit} (hattn : a.attn = a.summary) (n : AlertCondition) (cause : FirstCause) :
    a.raise n cause =
      { a with
        conditions := a.conditions.set n.number ((a.condition n.number).raised cause)
        attn := a.attn || (a.reporting && (a.condition n.number).enable)
        due := a.due || (a.reporting && (a.condition n.number).enable && !(a.condition n.number).set) } := by
  rw [raise, reevaluate, summary_setCondition_raised, newlySetEnabled_setCondition_raised, setCondition_due, due_of_raise, ← hattn,
    setCondition]

/-! ## Soundness of the Alert Unit -/

/-- `AlertsSound`, as a property of the Alert Unit alone. -/
structure AlertUnit.Sound (a : AlertUnit) : Prop where
  conditions (n : Fin 10) : (a.condition n).Sound
  attn : a.attn = a.summary
  due : a.due = true → a.reporting = true

theorem alertsSound_iff {s : State} : AlertsSound s ↔ s.alerts.Sound := by
  rw [AlertsSound, ← AlertUnit.summary_iff, ← Bool.eq_iff_iff]
  exact ⟨fun ⟨hc, ha, hd⟩ => ⟨hc, ha, hd⟩, fun ⟨hc, ha, hd⟩ => ⟨hc, ha, hd⟩⟩

/-- Settles O60: in a sound state ATTN is the summary, and the raise is that of `AlertUnit.raise_eq`. -/
theorem raisesAreRecorded : Obligations.RaisesAreRecorded := by
  intro n cause s hs
  exact congrArg s.setAlerts (AlertUnit.raise_eq (alertsSound_iff.mp hs).attn n cause)

theorem AlertUnit.sound_reset : resetAlerts.Sound := by
  have hc (n : Fin 10) : resetAlerts.condition n = resetCondition := by simp [resetAlerts, condition]
  exact ⟨fun n => by simp [hc, resetCondition, Condition.Sound], rfl, nofun⟩

namespace AlertUnit.Sound

variable {a : AlertUnit} (ha : a.Sound)
include ha

theorem setCondition_sound (n : Fin 10) {c : Condition} (hc : c.Sound) (m : Fin 10) : ((a.setCondition n c).condition m).Sound := by
  rw [setCondition_condition]
  split
  · exact hc
  · exact ha.conditions m

omit ha in
/-- A re-evaluation puts ATTN right by itself, and sets alert-due only while reporting is ON (R136, R137). -/
theorem reevaluate (old : AlertUnit) {new : AlertUnit} (hc : ∀ n, (new.condition n).Sound)
    (hd : new.due = true → new.reporting = true) : (old.reevaluate new).Sound where
  conditions := hc
  attn := rfl
  due h := by
    simp only [AlertUnit.reevaluate, Bool.or_eq_true, Bool.and_eq_true, summary_iff, newlySetEnabled_iff] at h
    obtain (h | ⟨-, hr, -⟩) | ⟨hr, -⟩ := h
    · exact hd h
    · exact hr
    · exact hr

theorem raise (n : AlertCondition) (cause : FirstCause) : (a.raise n cause).Sound :=
  reevaluate a (ha.setCondition_sound _ ((ha.conditions _).raised cause)) ha.due

theorem clear (list : Word16) : (a.clear list).Sound where
  conditions n := by
    simp only [AlertUnit.clear, AlertUnit.condition, Fin.getElem_fin, Vector.getElem_ofFn]
    split
    · exact Condition.sound_cleared _
    · exact ha.conditions n
  attn := rfl
  due := ha.due

theorem setEnable (n : Fin 10) (on : Bool) : (a.setEnable n on).Sound :=
  reevaluate a (ha.setCondition_sound n (ha.conditions n)) ha.due

theorem setReporting (on : Bool) : (a.setReporting on).Sound := by
  cases on with
  | true => exact reevaluate a ha.conditions fun _ => rfl
  | false => exact ⟨ha.conditions, rfl, nofun⟩

theorem take : a.take.Sound := ⟨ha.conditions, ha.attn, nofun⟩

omit ha in
theorem restarted (a : AlertUnit) : a.restarted.Sound := by
  have hc (n : Fin 10) : a.restarted.condition n = (a.condition n).cleared := by simp [AlertUnit.restarted, AlertUnit.condition]
  refine ⟨fun n => hc n ▸ Condition.sound_cleared _, ?_, nofun⟩
  have hclear : ¬ a.restarted.summary = true := by simp [summary_iff, hc, Condition.cleared]
  exact (Bool.eq_false_iff.mpr hclear).symm

end AlertUnit.Sound

end Sys2Proof.Machine

/-! Every step keeps the alerts sound (R131, R136): an operation leaves the Alert Unit alone, or changes it by the Alert Unit's own
operations. -/

namespace Sys2Proof.Machine

/-- What leaves the Alert Unit alone keeps the alerts sound. -/
theorem AlertsSound.congr {s t : State} (hs : AlertsSound s) (h : t.alerts = s.alerts) : AlertsSound t := by
  rwa [alertsSound_iff, h, ← alertsSound_iff]

theorem AlertsSound.setAlerts {s : State} {a : AlertUnit} (ha : a.Sound) : AlertsSound (s.setAlerts a) := alertsSound_iff.mpr ha

namespace AlertsSound

variable {s : State} (hs : AlertsSound s)
include hs

theorem unit : s.alerts.Sound := alertsSound_iff.mp hs

/-! ## Blocks, raises and offers -/

theorem setLink (l : LinkInterface) : AlertsSound (s.setLink l) := hs.congr rfl
theorem setControl (c : RelayControl) : AlertsSound (s.setControl c) := hs.congr rfl
theorem setTable (t : TransactionTable) : AlertsSound (s.setTable t) := hs.congr rfl
theorem setEntries (es : List Entry) : AlertsSound (s.setEntries es) := hs.congr rfl
theorem setPending (cs : List Instr) : AlertsSound (s.setPending cs) := hs.congr rfl
theorem setNotices (q : NoticeQueue) : AlertsSound (s.setNotices q) := hs.congr rfl
theorem setSpan (sp : Fin 4) (u : SpanUnit) : AlertsSound (s.setSpan sp u) := hs.congr rfl
theorem updateSpan (sp : Fin 4) (f : SpanUnit → SpanUnit) : AlertsSound (s.updateSpan sp f) := hs.congr rfl

theorem raise (n : AlertCondition) (cause : FirstCause) : AlertsSound (s.raise n cause) := setAlerts (hs.unit.raise n cause)

theorem offer (sp : Fin 4) (node kind value : Nat) : AlertsSound (s.offer sp node kind value) := by
  unfold State.offer
  dsimp only
  split_ifs
  · exact hs.setNotices _
  · exact hs.setNotices _
  · exact (hs.setNotices _).raise _ _

theorem offers (sp : Fin 4) (kind : Nat) (addresses : List Nat) :
    AlertsSound (addresses.foldl (fun s a => s.offer sp a kind 0) s) := by
  induction addresses generalizing s with
  | nil => exact hs
  | cons a rest ih => exact ih (hs.offer sp a kind 0)

/-! ## Spans -/

theorem answered (sp : Fin 4) (address : Nat) : AlertsSound (s.answered sp address) := by
  unfold State.answered
  split
  · exact hs
  · split_ifs
    · exact hs.updateSpan sp _
    · exact (hs.updateSpan sp _).offer _ _ _ _

theorem missed (sp : Fin 4) (address : Nat) : AlertsSound (s.missed sp address) := by
  unfold State.missed
  split
  · exact hs
  · split_ifs
    · exact hs
    · exact hs.updateSpan sp _
    · exact (hs.updateSpan sp _).offer _ _ _ _

theorem pollOutcome (sp : Fin 4) (address : Nat) (r : AttemptResult) : AlertsSound (s.pollOutcome sp address r) := by
  cases r with
  | silent | garbled => exact hs.missed sp address
  | done | busy | refused | nothing => exact hs.answered sp address
  | notice kind value =>
    unfold State.pollOutcome
    split_ifs
    · exact (hs.answered sp address).offer _ _ _ _
    · exact hs

theorem postEnded (sp : Fin 4) (o : CompletionOutcome) : AlertsSound (s.postEnded sp o) := by
  unfold State.postEnded
  split
  · exact hs
  · dsimp only
    split
    · exact (hs.updateSpan sp _).setEntries _
    · exact ((hs.updateSpan sp _).setEntries _).raise _ _

theorem deferredEnded (sp : Fin 4) (r : CompletionRecord) : AlertsSound (s.deferredEnded sp r) := hs.setEntries _

theorem jobEnded (sp : Fin 4) : AlertsSound (s.jobEnded sp) := hs.congr (by simp)

theorem answeredIf (answer : Bool) (sp : Fin 4) (address : Nat) :
    AlertsSound (if answer then s.answered sp address else s) := by
  split_ifs
  · exact hs.answered sp address
  · exact hs

theorem handOver (sp : Fin 4) (j : Job) (r : AttemptResult) : AlertsSound (s.handOver sp j r) := by
  unfold State.handOver
  split
  · exact (hs.pollOutcome sp j.node r).jobEnded sp
  · exact ((hs.deferredEnded sp _).answeredIf _ sp j.node).jobEnded sp
  · exact ((hs.postEnded sp _).answeredIf _ sp j.node).jobEnded sp

theorem attemptEnded (sp : Fin 4) (r : AttemptResult) : AlertsSound (s.attemptEnded sp r) := by
  unfold State.attemptEnded
  split
  · exact hs
  · dsimp only
    split_ifs
    · exact (hs.setSpan sp _).handOver sp _ r
    · exact hs.setSpan sp _

theorem windowExpired (sp : Fin 4) : AlertsSound (s.windowExpired sp) := by
  unfold State.windowExpired
  split
  · exact (hs.updateSpan sp _).attemptEnded sp _
  · exact hs

theorem responseEnded (sp : Fin 4) (chars : List LineChar) : AlertsSound (s.responseEnded sp chars) := by
  unfold State.responseEnded
  split
  · exact hs.updateSpan sp _
  · split
    · exact (hs.updateSpan sp _).attemptEnded sp _
    · exact hs.updateSpan sp _

theorem responseOverlong (sp : Fin 4) : AlertsSound (s.responseOverlong sp) := by
  unfold State.responseOverlong
  split
  · exact (hs.updateSpan sp _).attemptEnded sp _
  · exact hs

theorem raiseDiscarded (sp : Fin 4) (posts : List Post) : AlertsSound (s.raiseDiscarded sp posts) := by
  cases posts with
  | nil => exact hs
  | cons p rest => exact hs.raise _ _

theorem shutSpan (sp : Fin 4) (target : SpanState) (scheduler : Scheduler) (o : CompletionOutcome) :
    AlertsSound (s.shutSpan sp target scheduler o) :=
  ((hs.setSpan sp _).setEntries _).raiseDiscarded sp _

theorem spanOff (sp : Fin 4) : AlertsSound (s.spanOff sp).1 := by
  unfold State.spanOff
  split
  · exact hs
  · exact hs.shutSpan sp _ _ _
  · exact hs.shutSpan sp _ _ _
  · exact hs.shutSpan sp _ _ _
  · exact hs.shutSpan sp _ _ _
  · exact hs.congr rfl

theorem lineFault (sp : Fin 4) : AlertsSound (s.lineFault sp) := by
  unfold State.lineFault
  dsimp only
  split_ifs
  · exact ((hs.shutSpan sp _ _ _).updateSpan sp _).raise _ _
  · exact hs

/-! ## Messages -/

theorem acceptPost (o : Fin 8) (unit : Fin 4096) (item : Byte) (length : Nat) (data : List Byte) :
    AlertsSound (s.acceptPost o unit item length data).1 := by
  unfold State.acceptPost
  split
  · exact hs
  · dsimp only
    split_ifs
    · exact hs
    · exact hs.congr (by simp)
    · split
      · exact hs
      · exact (hs.setSpan _ _).raise _ _

theorem spanAction (sp : Fin 4) (action : SpanAction) : AlertsSound (s.spanAction sp action).1 := by
  cases action with
  | enable => exact hs.congr (State.spanEnable_alerts s sp)
  | quiesce => exact hs.congr (State.spanQuiesce_alerts s sp)
  | off => exact hs.spanOff sp

theorem setMissLimit (sp : Fin 4) (limit : Nat) : AlertsSound (s.setMissLimit sp limit) :=
  (hs.setSpan sp _).offers sp _ _

/-- Of the parameters, MISS_LIMIT can raise NOTICE_OVERFLOW, and ALERT_REPORTING and ALERT_ENABLE are the Alert Unit's own. -/
theorem apply (c : Change) : AlertsSound (s.apply c) := by
  cases c with
  | missLimit sp n => exact hs.setMissLimit sp n
  | alertReporting on => exact setAlerts (hs.unit.setReporting on)
  | alertEnable n on => exact setAlerts (hs.unit.setEnable n on)
  | _ => exact hs.congr (by simp [State.apply, State.updateParams])

theorem setParameter (code index : Byte) (value : List Byte) : AlertsSound (s.setParameter code index value).1 := by
  unfold State.setParameter
  split
  · exact hs
  · exact hs
  · split
    · exact hs
    · split_ifs
      · exact hs.apply _
      · exact hs

theorem act (o : Fin 8) (m : HostMessage) : AlertsSound (s.act o m).1 := by
  cases m with
  | post unit item length data => exact hs.acceptPost o unit item length data
  | span sp action => exact hs.spanAction sp action
  | set code index value => exact hs.setParameter code index value
  | clear conditions => exact setAlerts (hs.unit.clear conditions)
  | _ => exact hs.congr (by simp [State.act])

theorem answer (f : Frame) : AlertsSound (s.answer f) := by
  unfold State.answer
  split
  · exact hs.setLink _
  · exact (hs.act _ _).setLink _

/-! ## The Host Link -/

theorem take : AlertsSound s.take := by
  unfold State.take
  split
  · exact hs
  · exact (hs.setLink _).answer _

theorem takes (n : Nat) : AlertsSound (State.takes n s) := by
  induction n generalizing s with
  | zero => exact hs
  | succ n ih =>
    unfold State.takes
    split_ifs
    · exact ih hs.take
    · exact hs

theorem choose : AlertsSound s.choose := by
  obtain h | ⟨l, h⟩ | h | ⟨n, rest, -, -, h⟩ := s.choose_cases <;> rw [h]
  · exact hs
  · exact hs.setLink l
  · exact setAlerts hs.unit.take
  · exact (hs.setLink _).setNotices _

theorem serve : AlertsSound s.serve := (hs.takes _).choose

theorem offerFrame (f : Frame) : AlertsSound (s.offerFrame f) := by
  unfold State.offerFrame
  split_ifs
  · exact hs.setLink _
  · exact (hs.setLink _).raise _ _

theorem frameFailed : AlertsSound s.frameFailed := (hs.setLink _).raise _ _

theorem judged (j : Judged) : AlertsSound (s.judged j) := by
  unfold State.judged
  split_ifs
  · cases j with
    | failed => exact hs.frameFailed.serve
    | good f => exact (hs.offerFrame f).serve
  · exact hs

theorem judgements (js : List Judged) : AlertsSound (js.foldl State.judged s) := by
  induction js generalizing s with
  | nil => exact hs
  | cons j rest ih => exact ih (hs.judged j)

theorem receiverEvent (gap : Bool) (bytes : List Byte) : AlertsSound (s.receiverEvent gap bytes) :=
  (hs.setLink _).judgements _

theorem receive (bytes : List Byte) : AlertsSound (s.receive bytes) := by
  unfold State.receive
  split_ifs
  · exact hs.receiverEvent _ _
  · exact hs

theorem gapExceeded : AlertsSound s.gapExceeded := by
  unfold State.gapExceeded
  split
  · exact hs
  · split_ifs
    · exact hs.receiverEvent _ _
    · exact hs

theorem message (f : Frame) : AlertsSound (s.message f) := hs.judged (.good f)

/-! ## Timers, power and reset -/

theorem discardExpired (k : Key) : AlertsSound (s.discardExpired k) := by
  unfold State.discardExpired
  split
  · exact hs
  · split_ifs
    · exact (hs.setTable _).raise _ _
    · exact hs

omit hs in
theorem hardReset (s : State) (control : RelayControl) (bitRate : BitRate) : AlertsSound (s.hardReset control bitRate) :=
  alertsSound_iff.mpr AlertUnit.sound_reset

omit hs in
theorem restartEvent (s : State) : AlertsSound s.restartEvent := alertsSound_iff.mpr (AlertUnit.Sound.restarted s.alerts)

theorem txFrameEnded : AlertsSound s.txFrameEnded := by
  unfold State.txFrameEnded
  split
  · exact hs
  · split_ifs
    · exact restartEvent s
    · exact (hs.setLink _).serve
  · exact (hs.setLink _).serve
  · exact (hs.setLink _).serve
  · exact ((hs.setControl _).setLink _).serve

/-! ## Commands -/

/-- Every command completes and keeps the alerts sound. -/
theorem exec (c : Instr) : ∃ t, exec c s = .next t ∧ AlertsSound t := by
  cases c with
  | read | write | post | cancelKey | cancelAll | spanEnable | spanQuiesce | spanOff | setRoute | setDefaultSpan | setRoster
  | setMissLimit | setPollMs | setRate | setAlertEnable | setAlertReporting | set | get | clear | credit | restart =>
    exact ⟨_, rfl, hs.message _⟩
  | hostFrame bytes => exact ⟨_, rfl, hs.receive bytes⟩
  | hrxByteReceived byte => exact ⟨_, rfl, hs.receive [byte]⟩
  | gapFailure => exact ⟨_, rfl, hs.gapExceeded⟩
  | txFrameEnd => exact ⟨_, rfl, hs.txFrameEnded⟩
  | powerOn | rstnLow => exact ⟨_, rfl, hardReset s _ _⟩
  | startUpEnd straps => exact ⟨_, rfl, hs.congr (by simp)⟩
  | rstnHigh straps => exact ⟨_, rfl, hs.congr (by simp)⟩
  | readyFirstByte => exact ⟨_, rfl, hs.congr (by simp)⟩
  | discardExpiry key => exact ⟨_, rfl, (hs.discardExpired key).choose⟩
  | lingerExpiry key => exact ⟨_, rfl, hs.congr (by simp)⟩
  | settleExpiry sp => exact ⟨_, rfl, hs.congr (by simp)⟩
  | pollTimerExpiry sp => exact ⟨_, rfl, hs.congr (by simp)⟩
  | turnaroundComplete sp | commandFrameSent sp | responseStart sp | backoffExpiry sp => exact ⟨_, rfl, hs.updateSpan sp _⟩
  | responseWindowExpiry sp => exact ⟨_, rfl, (hs.windowExpired sp).choose⟩
  | responseFrameEnd sp chars => exact ⟨_, rfl, (hs.responseEnded sp chars).choose⟩
  | responseCharacter37 sp => exact ⟨_, rfl, (hs.responseOverlong sp).choose⟩
  | lineFault sp => exact ⟨_, rfl, (hs.lineFault sp).choose⟩

end AlertsSound

/-- Settles O5: an idle step changes nothing, and the front command keeps the alerts sound by `AlertsSound.exec`. -/
theorem alertsStaySound : Obligations.AlertsStaySound := by
  intro s t hs hstep
  unfold step at hstep
  split at hstep
  · next => exact Host.Outcome.next.inj hstep ▸ hs
  · next c rest _ =>
    obtain ⟨u, hu, hsound⟩ := (hs.setPending rest).exec c
    exact Host.Outcome.next.inj (hu.symm.trans hstep) ▸ hsound

end Sys2Proof.Machine

/-! What a step is made of. Every command completes; what it does to the blocks behind the Host Link is done by the acts of messages and by
the events of spans, timers and resets, so a property that these keep is kept by every step. -/

namespace Sys2Proof.Machine

set_option Elab.async false -- one proof after another, as in the files under Laws/

/-- The events that reach a block behind the Host Link without a message (Tables 1-2, 3-1, 4-6 and 5-1). -/
inductive State.Event (s : State) : State → Prop where
  | discardExpired (k : Key) : Event s (s.discardExpired k)
  | lingerExpired (k : Key) : Event s (s.lingerExpired k)
  | settleExpired (sp : Fin 4) : Event s (s.settleExpired sp)
  | pollTimerExpired (sp : Fin 4) : Event s (s.pollTimerExpired sp)
  | turnaroundCompleted (sp : Fin 4) : Event s (s.updateSpan sp SpanUnit.turnaroundCompleted)
  | commandSent (sp : Fin 4) (lineActive : Bool) : Event s (s.updateSpan sp fun u => u.commandSent lineActive)
  | responseStarted (sp : Fin 4) : Event s (s.updateSpan sp SpanUnit.responseStarted)
  | backoffExpired (sp : Fin 4) : Event s (s.updateSpan sp SpanUnit.backoffExpired)
  | windowExpired (sp : Fin 4) : Event s (s.windowExpired sp)
  | responseEnded (sp : Fin 4) (chars : List LineChar) : Event s (s.responseEnded sp chars)
  | responseOverlong (sp : Fin 4) : Event s (s.responseOverlong sp)
  | lineFault (sp : Fin 4) : Event s (s.lineFault sp)

/-- A link whose counters are those of `l`, or within their range (R151). -/
def LinkInterface.CountersFrom (l l' : LinkInterface) : Prop :=
  (l'.linkErrors = l.linkErrors ∨ l'.linkErrors ≤ Config.counterTop) ∧
  (l'.intakeOverruns = l.intakeOverruns ∨ l'.intakeOverruns ≤ Config.counterTop)

theorem LinkInterface.CountersFrom.same {l l' : LinkInterface} (he : l'.linkErrors = l.linkErrors)
    (ho : l'.intakeOverruns = l.intakeOverruns) : l.CountersFrom l' := ⟨.inl he, .inl ho⟩

theorem saturate_le (top n : Nat) : saturate top n ≤ top := Nat.min_le_left _ _

/-- `Q` holds of the state that a command finds, and `P` of every state that the command goes through. -/
structure StepKeeps (Q P : State → Prop) : Prop where
  found {s} : Q s → P s
  control {s} (c : RelayControl) : P s → P (s.setControl c)
  link {s} {l : LinkInterface} : s.link.CountersFrom l → P s → P (s.setLink l)
  alerts {s} (a : AlertUnit) : P s → P (s.setAlerts a)
  takeNotice {s} {n : Notice} {rest : List Notice} : s.notices.entries = n :: rest → P s →
    P (s.setNotices { entries := rest, credit := s.notices.credit - 1, lost := 0 })
  act {s} (o : Fin 8) (m : HostMessage) : P s → P (s.act o m).1
  event {s t} : s.Event t → Q s → P t
  hardReset (s : State) (control : RelayControl) (bitRate : BitRate) : Q s → P (s.hardReset control bitRate)
  restart {s} : Q s → P s.restartEvent

namespace StepKeeps

variable {Q P : State → Prop} (K : StepKeeps Q P) {s : State}
include K

theorem linkSame {l : LinkInterface} (he : l.linkErrors = s.link.linkErrors) (ho : l.intakeOverruns = s.link.intakeOverruns) (h : P s) :
    P (s.setLink l) := K.link (.same he ho) h

theorem answer (f : Frame) (h : P s) : P (s.answer f) := by
  unfold State.answer
  split
  · exact K.linkSame rfl rfl h
  · exact K.linkSame rfl rfl (K.act _ _ h)

theorem take (h : P s) : P s.take := by
  unfold State.take
  split
  · exact h
  · exact K.answer _ (K.linkSame rfl rfl h)

theorem takes (n : Nat) (h : P s) : P (State.takes n s) := by
  induction n generalizing s with
  | zero => exact h
  | succ n ih =>
    unfold State.takes
    split_ifs
    · exact ih (K.take h)
    · exact h

theorem takeUnsolicited (h : P s) : P s.takeUnsolicited := by
  unfold State.takeUnsolicited
  split
  · exact K.alerts _ (K.linkSame rfl rfl h)
  · split
    · exact h
    · next n rest hn =>
      split
      · exact K.takeNotice hn (K.linkSame rfl rfl h)
      · exact h

theorem takeReply {t : State} (ht : s.takeReply = some t) (h : P s) : P t := by
  obtain ⟨⟨sl, replies⟩, -, rfl⟩ := Option.map_eq_some_iff.mp ht
  exact K.linkSame rfl rfl h

theorem choose (h : P s) : P s.choose := by
  unfold State.choose
  split
  · exact h
  · split
    · cases ht : s.takeReply with
      | none => exact K.takeUnsolicited h
      | some t => exact K.takeReply ht h
    · cases ht : s.takeReply with
      | none => exact h
      | some t => exact K.takeReply ht h
    · exact h
    · exact h

theorem serve (h : P s) : P s.serve := K.choose (K.takes _ h)

theorem frameFailed (h : P s) : P s.frameFailed := K.alerts _ (K.link ⟨.inr (saturate_le _ _), .inl rfl⟩ h)

theorem offerFrame (f : Frame) (h : P s) : P (s.offerFrame f) := by
  unfold State.offerFrame
  split_ifs
  · exact K.linkSame rfl rfl h
  · exact K.alerts _ (K.link ⟨.inl rfl, .inr (saturate_le _ _)⟩ h)

theorem judged (j : Judged) (h : P s) : P (s.judged j) := by
  unfold State.judged
  split_ifs
  · cases j with
    | failed => exact K.serve (K.frameFailed h)
    | good f => exact K.serve (K.offerFrame f h)
  · exact h

theorem judgements (js : List Judged) (h : P s) : P (js.foldl State.judged s) := by
  induction js generalizing s with
  | nil => exact h
  | cons j rest ih => exact ih (K.judged j h)

theorem receiverEvent (gap : Bool) (bytes : List Byte) (h : P s) : P (s.receiverEvent gap bytes) :=
  K.judgements _ (K.linkSame rfl rfl h)

theorem receive (bytes : List Byte) (h : P s) : P (s.receive bytes) := by
  unfold State.receive
  split_ifs
  · exact K.receiverEvent _ _ h
  · exact h

theorem gapExceeded (h : P s) : P s.gapExceeded := by
  unfold State.gapExceeded
  split
  · exact h
  · split_ifs
    · exact K.receiverEvent _ _ h
    · exact h

theorem txFrameEnded (h : Q s) : P s.txFrameEnded := by
  have hp := K.found h
  unfold State.txFrameEnded
  split
  · exact hp
  · split_ifs
    · exact K.restart h
    · exact K.serve (K.linkSame rfl rfl hp)
  · exact K.serve (K.linkSame rfl rfl hp)
  · exact K.serve (K.linkSame rfl rfl hp)
  · exact K.serve (K.linkSame rfl rfl (K.control _ hp))

theorem leaveHeld (straps : Straps) (h : P s) : P (s.leaveHeld straps) := by
  unfold State.leaveHeld
  split
  · exact K.linkSame rfl rfl (K.linkSame rfl rfl (K.control _ h))
  · exact h

theorem startUpEnded (straps : Straps) (h : P s) : P (s.startUpEnded straps) := by
  unfold State.startUpEnded
  split_ifs
  · exact K.leaveHeld straps (K.control _ h)
  · exact h

theorem rstnHigh (straps : Straps) (h : P s) : P (s.rstnHigh straps) := by
  unfold State.rstnHigh
  split_ifs
  · exact h
  · exact K.leaveHeld straps (K.control _ h)

theorem readyBegins (h : P s) : P s.readyBegins := by
  unfold State.readyBegins
  split
  · exact K.control _ (K.linkSame rfl rfl h)
  · exact h

/-- Every command completes, and leaves a state with the property. -/
theorem exec (c : Instr) (h : Q s) : ∃ t, exec c s = .next t ∧ P t := by
  have hp := K.found h
  cases c with
  | read | write | post | cancelKey | cancelAll | spanEnable | spanQuiesce | spanOff | setRoute | setDefaultSpan | setRoster
  | setMissLimit | setPollMs | setRate | setAlertEnable | setAlertReporting | set | get | clear | credit | restart =>
    exact ⟨_, rfl, K.judged _ hp⟩
  | hostFrame bytes => exact ⟨_, rfl, K.receive bytes hp⟩
  | hrxByteReceived byte => exact ⟨_, rfl, K.receive [byte] hp⟩
  | gapFailure => exact ⟨_, rfl, K.gapExceeded hp⟩
  | txFrameEnd => exact ⟨_, rfl, K.txFrameEnded h⟩
  | powerOn | rstnLow => exact ⟨_, rfl, K.hardReset s _ _ h⟩
  | startUpEnd straps => exact ⟨_, rfl, K.startUpEnded straps hp⟩
  | rstnHigh straps => exact ⟨_, rfl, K.rstnHigh straps hp⟩
  | readyFirstByte => exact ⟨_, rfl, K.readyBegins hp⟩
  | discardExpiry key => exact ⟨_, rfl, K.choose (K.event (.discardExpired key) h)⟩
  | lingerExpiry key => exact ⟨_, rfl, K.event (.lingerExpired key) h⟩
  | settleExpiry sp => exact ⟨_, rfl, K.event (.settleExpired sp) h⟩
  | pollTimerExpiry sp => exact ⟨_, rfl, K.event (.pollTimerExpired sp) h⟩
  | turnaroundComplete sp => exact ⟨_, rfl, K.event (.turnaroundCompleted sp) h⟩
  | commandFrameSent sp lineActive => exact ⟨_, rfl, K.event (.commandSent sp lineActive) h⟩
  | responseStart sp => exact ⟨_, rfl, K.event (.responseStarted sp) h⟩
  | backoffExpiry sp => exact ⟨_, rfl, K.event (.backoffExpired sp) h⟩
  | responseWindowExpiry sp => exact ⟨_, rfl, K.choose (K.event (.windowExpired sp) h)⟩
  | responseFrameEnd sp chars => exact ⟨_, rfl, K.choose (K.event (.responseEnded sp chars) h)⟩
  | responseCharacter37 sp => exact ⟨_, rfl, K.choose (K.event (.responseOverlong sp) h)⟩
  | lineFault sp => exact ⟨_, rfl, K.choose (K.event (.lineFault sp) h)⟩

/-- An idle step changes nothing; any other runs its command with the queue's rest. -/
theorem step {t : State} (hpending : ∀ rest, Q s → Q (s.setPending rest)) (h : Q s) (hstep : step s = .next t) : P t := by
  unfold Machine.step at hstep
  split at hstep
  · exact Host.Outcome.next.inj hstep ▸ K.found h
  · next c rest _ =>
    obtain ⟨u, hu, hP⟩ := K.exec c (hpending rest h)
    exact Host.Outcome.next.inj (hu.symm.trans hstep) ▸ hP

end StepKeeps

/-! ## Routes -/

theorem Window.inRange_iff (w : Window) :
    w.inRange = true ↔ w.first ≤ w.last ∧ w.last ≤ 4095 ∧ 1 ≤ w.base ∧ w.base + (w.last - w.first) ≤ 15 := by
  simp only [Window.inRange, Bool.and_eq_true, decide_eq_true_eq]
  omega

theorem Router.clearOf_iff (r : Router) (i : Fin 8) (w : Window) :
    r.clearOf i w = true ↔ ∀ j v, j ≠ i → r.window j = some v → ¬ (w.first ≤ v.last ∧ v.first ≤ w.last) := by
  simp only [Router.clearOf, List.all_eq_true, mem_windowNumbers, forall_const, Bool.or_eq_true, beq_iff_eq]
  refine forall_congr' fun j => ?_
  by_cases hj : j = i
  · simp [hj]
  · cases r.window j <;> simp [hj, Window.overlaps]
    omega

theorem Router.setWindow_window (r : Router) (i j : Fin 8) (w : Option Window) :
    (r.setWindow i w).window j = if j = i then w else r.window j := by
  simp only [Router.setWindow, Router.window, Fin.getElem_fin, Vector.getElem_set]
  by_cases h : i = j
  · subst h; simp
  · simp [Fin.val_ne_of_ne h, Ne.symm h]

/-- What a value may put at an index keeps the windows in range and apart (R105, R106). -/
theorem RoutesSound.setWindow {r : Router} (hr : RoutesSound r) {i : Fin 8} {w : Option Window}
    (hw : ∀ v, w = some v → v.inRange = true ∧ r.clearOf i v = true) : RoutesSound (r.setWindow i w) := by
  obtain ⟨inRange, apart⟩ := hr
  have clear {j : Fin 8} {v v' : Window} {unit : Nat} (hv : w = some v) (hj : j ≠ i) (hv' : r.window j = some v')
      (hu : v.holds unit = true ∧ v'.holds unit = true) : False := by
    simp only [Window.holds_iff] at hu
    exact (r.clearOf_iff i v).mp (hw v hv).2 j v' hj hv' (by omega)
  refine ⟨fun j v hj => ?_, fun j k v v' unit hne hj hk hu => ?_⟩
  · rw [Router.setWindow_window] at hj
    split_ifs at hj with h
    · exact v.inRange_iff.mp (hw v hj).1
    · exact inRange j v hj
  · rw [Router.setWindow_window] at hj hk
    split_ifs at hj hk with h h' h'
    · exact hne (h.trans h'.symm)
    · exact clear hj h' hk hu
    · exact clear hk h hj hu.symm
    · exact apart j k v v' unit hne hj hk hu

/-- The window that a SET of ROUTE asks for has passed the checks of Table 6-3. -/
theorem requestedChange?_route {r : Router} {p : ParamRef} {value : List Byte} {i : Fin 8} {w : Option Window}
    (h : requestedChange? r p value = some (.route i w)) : ∀ v, w = some v → v.inRange = true ∧ r.clearOf i v = true := by
  cases p with
  | route j =>
    simp only [requestedChange?] at h
    split at h
    · simp at h
    · cases h; simp
    · split_ifs at h with hok
      cases h
      simpa using hok
  | _ => simp [requestedChange?] at h

theorem RoutesSound.apply {s : State} (hs : RoutesSound s.router) {c : Change}
    (hc : ∀ i w, c = .route i w → ∀ v, w = some v → v.inRange = true ∧ s.router.clearOf i v = true) :
    RoutesSound (s.apply c).router := by
  cases c with
  | route i w => exact hs.setWindow (hc i w rfl)
  | defaultSpan d => exact hs
  | _ => simpa [State.apply, State.updateParams] using hs

theorem RoutesSound.setParameter {s : State} (hs : RoutesSound s.router) (code index : Byte) (value : List Byte) :
    RoutesSound (s.setParameter code index value).1.router := by
  unfold State.setParameter
  split
  · exact hs
  · exact hs
  · split
    · exact hs
    · next c hc =>
      split_ifs
      · refine hs.apply ?_
        rintro i w rfl
        exact requestedChange?_route hc
      · exact hs

theorem routesSound_reset : RoutesSound resetRouter := by
  have h (i : Fin 8) : resetRouter.window i = none := by simp [resetRouter, Router.window]
  exact ⟨fun i w hw => by simp [h] at hw, fun i j v w u _ hv => by simp [h] at hv⟩

/-- Of all that a command does, only a SET of ROUTE changes a window. -/
theorem stepKeeps_routes : StepKeeps (fun s => RoutesSound s.router) (fun s => RoutesSound s.router) where
  found h := h
  control _ h := h
  link _ h := h
  alerts _ h := h
  takeNotice _ h := h
  act {s} o m h := by
    cases m with
    | set code index value => exact h.setParameter code index value
    | _ => simpa [State.act] using h
  event {s t} e h := by
    cases e <;> simpa using h
  hardReset _ _ _ _ := routesSound_reset
  restart h := h

/-- Settles O6: a window enters the Route Table by a SET of ROUTE alone, and that has passed the checks of Table 6-3. -/
theorem routesStaySound : Obligations.RoutesStaySound :=
  fun _ _ hs hstep => stepKeeps_routes.step (fun _ h => h) hs hstep

end Sys2Proof.Machine

/-! The moves of the Transaction Table and the Span Units. Every step is made of engine moves, which bring an attempt or a job forward, and of
work moves behind them, which bring, start and remove work; an invariant of the two blocks is one that every move keeps. -/

namespace Sys2Proof.Machine

set_option Elab.async false -- one proof after another, as in the files under Laws/

/-! ## Moves of one Span Unit -/

/-- A Span Unit whose engine, queue and scheduler are left alone: at most its roster, its counters and the parameters that they do not follow
change, and these keep their ranges. -/
structure SpanUnit.Kept (u v : SpanUnit) : Prop where
  state : v.state = u.state
  settle : v.settle = u.settle
  measure : v.measure = u.measure
  idle3 : v.idle3 = u.idle3
  posts : v.posts = u.posts
  scheduler : v.scheduler = u.scheduler
  job : v.job = u.job
  sde : v.sde = u.sde
  srst : v.srst = u.srst
  pollMs : v.params.pollMs = u.params.pollMs
  roster : u.RosterSound → v.RosterSound
  params : u.params.InRange → v.params.InRange
  discarded : u.postsDiscarded ≤ Config.counterTop → v.postsDiscarded ≤ Config.counterTop

/-- An attempt is over or under way on the line: the phases in which a result can come (Table 4-6). -/
def Phase.AwaitsResult : Phase → Prop
  | .window _ => True
  | .receiving => True
  | _ => False

/-- A Span Unit at the end of its job (R77, R91). -/
def SpanUnit.freed (u : SpanUnit) : SpanUnit :=
  if u.state = .quiescing then { u.jobDone with state := .quiesced } else u.jobDone

/-- What the engine of a span does without the Transaction Table (Table 4-10). -/
inductive SpanUnit.EngineMoved (u : SpanUnit) : SpanUnit → Prop where
  | kept {v : SpanUnit} (h : u.Kept v) : EngineMoved u v
  | idle {b : Bool} (h : b = true → ∀ ms, u.phase ≠ some (.turnaround ms)) : EngineMoved u { u with idle3 := b }
  | attemptBegun {j : Job} {ms : Nat} (hj : u.job = some j) (hp : j.phase = .turnaround ms) : EngineMoved u (u.beginAttempt j)
  | backedOff {j : Job} {ms : Nat} (hj : u.job = some j) (hp : j.phase = .backoff ms) : EngineMoved u (u.enterTurnaround j)
  | commandSent {j : Job} {frame : List Byte} {p : Phase} (hj : u.job = some j) (hp : j.phase = .sending frame) (h : p.AwaitsResult) :
      EngineMoved u { u with sde := false, measure := .running, job := some { j with phase := p } }
  | responseStarted {j : Job} {ms : Nat} (hj : u.job = some j) (hp : j.phase = .window ms) :
      EngineMoved u { u with job := some { j with phase := .receiving } }
  | counted {j : Job} (r : AttemptResult) (hj : u.job = some j) :
      EngineMoved u { u with job := some { j with lastResult := some r }, counters := u.counters.count r }
  | retried {j : Job} (r : AttemptResult) (hj : u.job = some j) (hp : j.phase.AwaitsResult) (hlimit : j.begun < j.limit) :
      EngineMoved u (u.retry j r)
  | ended {j : Job} (hj : u.job = some j) (hp : j.phase.AwaitsResult) (hk : j.kind = .poll ∨ j.kind = .post ∧ u.posts = []) : EngineMoved u u.freed

/-- What brings and starts work on a span without the Transaction Table (Tables 3-2 and 5-2), under a limit of attempts. -/
inductive SpanUnit.WorkMoved (attempts : Nat) (u : SpanUnit) : SpanUnit → Prop where
  | kept {v : SpanUnit} (h : u.Kept v) : WorkMoved attempts u v
  | enabled (h : u.state = .off) : WorkMoved attempts u u.enabled
  | resumed (h : u.state = .quiescing ∨ u.state = .quiesced) : WorkMoved attempts u { u with state := .active }
  | quiesced (h : u.state = .active) :
      WorkMoved attempts u { u with state := if u.job.isSome then .quiescing else .quiesced }
  | settled (h : u.state = .starting) : WorkMoved attempts u { u with state := .active, settle := none }
  | pollExpired {ms : Nat} (h : u.scheduler.pollTimer = .running ms) :
      WorkMoved attempts u { u with scheduler := { u.scheduler with pollTimer := .expired } }
  | pollStarted (hs : u.state = .active) (hj : u.job = none) (hd : u.pollDue = true) : WorkMoved attempts u u.startPoll
  | postStarted (hs : u.state = .active) (hj : u.job = none) (hd : u.pollDue = true → u.scheduler.passOver ≠ 2) (hp : u.posts ≠ []) :
      WorkMoved attempts u (u.startPost attempts)
  | posted {p : Post} (hs : u.state.isOpen = true) (hl : u.posts.length < 8) (hp : p.inProgress = false) :
      WorkMoved attempts u { u with posts := u.posts ++ [p] }
  | pollInterval {n : Nat} (h : n ≤ 1000) : WorkMoved attempts u (u.setPollMs n)

/-- A Span Unit that has left its open states, or FAULTED for OFF, and the attempts that its deferred job has begun (R92, R93, R96). -/
inductive SpanUnit.Closed (u : SpanUnit) : SpanUnit → Nat → Prop where
  | shut {target : SpanState} {scheduler : Scheduler} (idle : Bool) (ho : u.state.isOpen = true)
      (ht : target = .off ∨ target = .faulted)
      (hs : scheduler = resetScheduler ∨ scheduler = { u.scheduler with pollTimer := .stopped }) :
      Closed u { u.shut target scheduler with idle3 := idle } u.attemptsBegun
  | off (h : u.state = .faulted) : Closed u { u with state := .off, scheduler := resetScheduler } 0

/-! ## Moves of the table and the spans together -/

/-- The same entries, spans and parameters. -/
structure State.SameWork (s t : State) : Prop where
  entries : t.table.entries = s.table.entries
  spans : t.spans = s.spans
  params : t.params = s.params

/-- What an attempt of a job can end with (R69): the data of a READ has the job's length, a code is not 0, a node's notice has a kind 1 to 63
and a value of 16 bits. -/
def AttemptResult.Fits (j : Job) : AttemptResult → Prop
  | .done data => j.operation = .read → data.length = j.length
  | .refused code => code ≠ 0#8
  | .garbled (some data) => data.length = j.length
  | .notice kind value => 1 ≤ kind.toNat ∧ kind.toNat ≤ 63 ∧ value ≤ 65535
  | .busy | .nothing | .silent | .garbled none => True

/-- The record that a deferred job hands over. -/
def Job.record (j : Job) (r : AttemptResult) : CompletionRecord :=
  { outcome := (j.outcome r).1, nodeCode := (j.outcome r).2.1, attempts := j.begun, data := (j.outcome r).2.2 }

/-- What brings a span's attempt or job forward, with what the Transaction Table takes of its end (R17, R18, R40). -/
inductive State.EngineMoved (s : State) : State → Prop where
  | same {t : State} (h : s.SameWork t) : EngineMoved s t
  | unit (sp : Fin 4) {v : SpanUnit} (h : (s.span sp).EngineMoved v) : EngineMoved s (s.setSpan sp v)
  | deferredEnded (sp : Fin 4) {j : Job} (r : AttemptResult) (hj : (s.span sp).job = some j) (hp : j.phase.AwaitsResult)
      (hk : j.kind = .deferred) (hr : r.Fits j) : EngineMoved s ((s.deferredEnded sp (j.record r)).setSpan sp (s.span sp).freed)
  | postEnded (sp : Fin 4) {j : Job} {p : Post} {rest : List Post} (hj : (s.span sp).job = some j)
      (hp : j.phase.AwaitsResult) (hk : j.kind = .post) (hposts : (s.span sp).posts = p :: rest) :
      EngineMoved s ((s.setEntries (postDone sp s.table.entries)).setSpan sp (SpanUnit.freed { s.span sp with posts := rest }))

/-- What brings, starts and removes work: on one span alone, or in the Transaction Table with it. -/
inductive State.WorkMoved (s : State) : State → Prop where
  | same {t : State} (h : s.SameWork t) : WorkMoved s t
  | unit (sp : Fin 4) {v : SpanUnit} (h : (s.span sp).WorkMoved s.params.attempts v) : WorkMoved s (s.setSpan sp v)
  | deferredStarted (sp : Fin 4) {e : Entry} (high : Fin 9) (low : Fin 8) (hs : (s.span sp).state = .active)
      (hj : (s.span sp).job = none) (hd : (s.span sp).pollDue = true → (s.span sp).scheduler.passOver ≠ 2)
      (he : e ∈ s.table.entries) (hel : e.eligible sp = true) :
      WorkMoved s ((s.setTable (s.table.setState e.key .running)).setSpan sp
        ((s.span sp).startDeferred e high low s.params.attempts))
  | closed (sp : Fin 4) {v : SpanUnit} {begun : Nat} {o : CompletionOutcome} (h : (s.span sp).Closed v begun)
      (ho : o = .spanReset ∨ o = .lineFault) : WorkMoved s ((s.setSpan sp v).cleanupClaim sp o begun)
  | reset {t : State} (he : t.table.entries = [])
      (hs : (∀ sp, t.span sp = (s.span sp).restarted) ∧ t.params = s.params ∨ (∀ sp, t.span sp = resetSpan) ∧ t.params = resetParams) :
      WorkMoved s t
  | params {p : ParameterStore} (h : ParamsInRange s → ParamsInRange (s.setParams p)) : WorkMoved s (s.setParams p)
  | resumed {e : Entry} (he : s.table.find e.key = some e) (hs : e.state = .cancelling) :
      WorkMoved s (s.setTable (s.table.setState e.key .running))
  | delivered {e : Entry} {r : CompletionRecord} {ms lingerMs : Nat} (he : s.table.find e.key = some e) (hs : e.state = .held r ms) :
      WorkMoved s (s.setTable (s.table.setState e.key (.delivered r lingerMs)))
  | removed {e : Entry} (he : s.table.find e.key = some e) (hs : e.isSubject = false) : WorkMoved s (s.setTable (s.table.free e.key))
  | accepted {k : Key} {flag : Bool} {sp : Fin 4} {node : Nat} {t : TransactionTable} (hk : s.table.find k = none)
      (hr : s.table.room sp (s.span sp).params.quota = .ok t) (ho : (s.span sp).state.isOpen = true) :
      WorkMoved s (s.setTable (t.append (newEntry k flag sp node .queued (s.span sp).posts.length)))
  | acceptedClosed {k : Key} {flag : Bool} {sp : Fin 4} {node : Nat} {t : TransactionTable} {ms : Nat} (hk : s.table.find k = none)
      (hr : s.table.room sp (s.span sp).params.quota = .ok t) :
      WorkMoved s (s.setTable (t.append (newEntry k flag sp node (.held (bareRecord .spanClosed 0) ms) 0)))
  | cancelled (p : Entry → Bool) : WorkMoved s (s.setTable (s.table.cancel p))

/-- Engine moves, one after another. -/
abbrev State.EngineReaches : State → State → Prop := Relation.ReflTransGen State.EngineMoved

/-- Work moves, one after another. -/
abbrev State.WorkReaches : State → State → Prop := Relation.ReflTransGen State.WorkMoved

/-- What one step can do to the table and the spans: its engine moves come before its work moves. -/
def State.Reaches (s t : State) : Prop := ∃ m, s.EngineReaches m ∧ m.WorkReaches t

theorem State.WorkReaches.same {s t : State} (h : s.SameWork t) : s.WorkReaches t := .single (.same h)

theorem State.EngineReaches.same {s t : State} (h : s.SameWork t) : s.EngineReaches t := .single (.same h)

theorem State.WorkReaches.unit {s : State} (sp : Fin 4) {v : SpanUnit} (h : (s.span sp).WorkMoved s.params.attempts v) :
    s.WorkReaches (s.setSpan sp v) := .single (.unit sp h)

theorem State.EngineReaches.unit {s : State} (sp : Fin 4) {v : SpanUnit} (h : (s.span sp).EngineMoved v) :
    s.EngineReaches (s.setSpan sp v) := .single (.unit sp h)

/-! ## Decisions -/

theorem State.WorkReaches.startDeferred {s : State} {sp : Fin 4} (hs : (s.span sp).state = .active) (hj : (s.span sp).job = none)
    (hd : (s.span sp).pollDue = true → (s.span sp).scheduler.passOver ≠ 2) : s.WorkReaches (s.startDeferred sp) := by
  unfold State.startDeferred
  dsimp only
  split
  · exact .refl
  · next o high low _ =>
    split
    · exact .refl
    · next e he =>
      have hel := List.find?_some he
      simp only [Bool.and_eq_true] at hel
      exact .single (.deferredStarted sp high low hs hj hd (List.mem_of_find?_eq_some he) hel.1)

theorem State.WorkReaches.schedule (s : State) (sp : Fin 4) : s.WorkReaches (s.schedule sp) := by
  unfold State.schedule
  split_ifs with h
  swap
  · exact .refl
  obtain ⟨hs, hj⟩ := h
  unfold State.decision
  dsimp only
  split_ifs with hfirst hpost hwaiting hdue
  · exact .unit sp (.pollStarted hs hj (Bool.and_eq_true_iff.mp hfirst).1)
  · refine .unit sp (.postStarted hs hj ?_ ?_)
    · simpa [Config.passOverLimit] using hfirst
    · intro h; simp [h] at hpost
  · exact .startDeferred hs hj (by simpa [Config.passOverLimit] using hfirst)
  · exact .unit sp (.pollStarted hs hj hdue)
  · exact .refl

end Sys2Proof.Machine

/-! The roster's own operations on one Span Unit (R112 to R118), and that they keep a roster sound. -/

namespace Sys2Proof.Machine

set_option Elab.async false -- one proof after another, as in the files under Laws/

/-! ## Records of a roster -/

/-- In an ascending roster one record at most has an address, so replacing the first is replacing every one. -/
theorem updateFirst_address {rs : List NodeRecord} (ascending : rs.Pairwise fun a b => a.address < b.address) (address : Nat)
    (r : NodeRecord) :
    updateFirst (fun x => x.address == address) (fun _ => r) rs = rs.map fun x => if x.address = address then r else x := by
  induction rs with
  | nil => rfl
  | cons x rs ih =>
    obtain ⟨hx, hrs⟩ := List.pairwise_cons.mp ascending
    by_cases h : x.address = address
    · have hrest : rs.map (fun y => if y.address = address then r else y) = rs :=
        (List.map_congr_left fun y hy => if_neg (by have := hx y hy; omega)).trans (List.map_id rs)
      simp [updateFirst, h, hrest]
    · simp [updateFirst, h, ih hrs]

/-- A change of records that keeps every address keeps a roster sound, if the new records are. -/
theorem SpanUnit.RosterSound.map {u v : SpanUnit} (hu : u.RosterSound) {f : NodeRecord → NodeRecord} (hroster : v.roster = u.roster.map f)
    (hlimit : 1 ≤ v.params.missLimit) (haddress : ∀ r, r ∈ u.roster → (f r).address = r.address)
    (hmisses : ∀ r ∈ u.roster, (f r).misses ≤ v.params.missLimit ∧ ((f r).status ≠ .lost → (f r).misses < v.params.missLimit)) :
    v.RosterSound := by
  obtain ⟨-, ascending, records⟩ := hu
  refine ⟨hlimit, ?_, ?_⟩
  · rw [hroster, List.pairwise_map]
    exact ascending.imp_of_mem fun ha hb hlt => by rw [haddress _ ha, haddress _ hb]; exact hlt
  · rw [hroster]
    intro r' hr'
    obtain ⟨r, hr, rfl⟩ := List.mem_map.mp hr'
    obtain ⟨hlow, hhigh, -⟩ := records r hr
    rw [haddress r hr]
    exact ⟨hlow, hhigh, hmisses r hr⟩

theorem SpanUnit.node_eq_some {u : SpanUnit} {address : Nat} {r : NodeRecord} (h : u.node address = some r) :
    r ∈ u.roster ∧ r.address = address := by
  have haddress := List.find?_some h
  exact ⟨List.mem_of_find?_eq_some h, by simpa using haddress⟩

/-- Replacing the record of a roster node by a sound one keeps the roster sound. -/
theorem SpanUnit.RosterSound.setNode {u : SpanUnit} (hu : u.RosterSound) {r : NodeRecord} (hm : r.misses ≤ u.params.missLimit)
    (hl : r.status ≠ .lost → r.misses < u.params.missLimit) : (u.setNode r).RosterSound := by
  obtain ⟨hlimit, ascending, records⟩ := hu
  have hroster : (u.setNode r).roster = u.roster.map fun x => if x.address = r.address then r else x :=
    updateFirst_address ascending r.address r
  refine SpanUnit.RosterSound.map ⟨hlimit, ascending, records⟩ hroster hlimit (fun x _ => ?_) (fun x hx => ?_)
  · split_ifs with h
    · exact h.symm
    · rfl
  · obtain ⟨-, -, hmisses⟩ := records x hx
    split_ifs
    · exact ⟨hm, hl⟩
    · exact hmisses

/-! ## Reports to one Span Unit -/

/-- An answer report, as the Span Unit takes it (R115, R118). -/
def SpanUnit.answered (u : SpanUnit) (address : Nat) : SpanUnit :=
  match u.node address with
  | none => u
  | some r => u.setNode { r with status := .present, misses := 0 }

/-- A miss report, as the Span Unit takes it (R116, R118). -/
def SpanUnit.missed (u : SpanUnit) (address : Nat) : SpanUnit :=
  match u.node address with
  | none => u
  | some r =>
    if r.status = .lost then u
    else if r.misses + 1 < u.params.missLimit then u.setNode { r with misses := r.misses + 1 }
    else u.setNode { r with status := .lost, misses := u.params.missLimit }

/-- A poll's outcome, as the Span Unit takes it (R76). -/
def SpanUnit.pollReported (u : SpanUnit) (address : Nat) : AttemptResult → SpanUnit
  | .silent | .garbled _ => u.missed address
  | .done _ | .busy | .refused _ | .notice _ _ | .nothing => u.answered address

theorem State.answered_spans (s : State) (sp : Fin 4) (address : Nat) :
    (s.answered sp address).spans = (s.setSpan sp ((s.span sp).answered address)).spans := by
  cases h : (s.span sp).node address with
  | none => simp [State.answered, SpanUnit.answered, h]
  | some r =>
    simp only [State.answered, SpanUnit.answered, h]
    split_ifs <;> simp [State.updateSpan]

theorem State.missed_spans (s : State) (sp : Fin 4) (address : Nat) :
    (s.missed sp address).spans = (s.setSpan sp ((s.span sp).missed address)).spans := by
  cases h : (s.span sp).node address with
  | none => simp [State.missed, SpanUnit.missed, h]
  | some r =>
    simp only [State.missed, SpanUnit.missed, h]
    split_ifs <;> simp [State.updateSpan]

theorem State.pollOutcome_spans (s : State) (sp : Fin 4) (address : Nat) (r : AttemptResult) :
    (s.pollOutcome sp address r).spans = (s.setSpan sp ((s.span sp).pollReported address r)).spans := by
  cases r with
  | silent | garbled => exact s.missed_spans sp address
  | done | busy | refused | nothing => exact s.answered_spans sp address
  | notice kind value =>
    simp only [State.pollOutcome, SpanUnit.pollReported]
    split_ifs with h
    · simpa using s.answered_spans sp address
    · simp only [Bool.not_eq_true, Option.isSome_eq_false_iff, Option.isNone_iff_eq_none] at h
      simp [SpanUnit.answered, h]

/-- Replacing a roster record is a change of the roster alone. -/
theorem SpanUnit.kept_setNode (u : SpanUnit) {r : NodeRecord} (hm : u.RosterSound → r.misses ≤ u.params.missLimit)
    (hl : u.RosterSound → r.status ≠ .lost → r.misses < u.params.missLimit) : u.Kept (u.setNode r) where
  state := rfl
  settle := rfl
  measure := rfl
  idle3 := rfl
  posts := rfl
  scheduler := rfl
  job := rfl
  sde := rfl
  srst := rfl
  pollMs := rfl
  roster hu := hu.setNode (hm hu) (hl hu)
  params := id
  discarded := id

theorem SpanUnit.Kept.refl (u : SpanUnit) : u.Kept u := ⟨rfl, rfl, rfl, rfl, rfl, rfl, rfl, rfl, rfl, rfl, id, id, id⟩

theorem SpanUnit.kept_answered (u : SpanUnit) (address : Nat) : u.Kept (u.answered address) := by
  unfold SpanUnit.answered
  split
  · exact .refl u
  · exact u.kept_setNode (fun _ => Nat.zero_le _) (fun hu _ => hu.1)

theorem SpanUnit.kept_missed (u : SpanUnit) (address : Nat) : u.Kept (u.missed address) := by
  unfold SpanUnit.missed
  split
  · exact .refl u
  · split_ifs with _ hbelow
    · exact .refl u
    · exact u.kept_setNode (fun _ => hbelow.le) (fun _ _ => hbelow)
    · exact u.kept_setNode (fun _ => le_rfl) (fun _ h => absurd rfl h)

theorem SpanUnit.kept_pollReported (u : SpanUnit) (address : Nat) (r : AttemptResult) : u.Kept (u.pollReported address r) := by
  cases r with
  | silent | garbled => exact u.kept_missed address
  | done | busy | refused | notice | nothing => exact u.kept_answered address

/-! ## The roster and the end of a job -/

/-- What the roster's operations read and change, the end of a job leaves alone. -/
theorem SpanUnit.freed_setNode (u : SpanUnit) (r : NodeRecord) : (u.setNode r).freed = u.freed.setNode r := by
  unfold SpanUnit.freed SpanUnit.setNode
  dsimp only
  split_ifs <;> rfl

@[simp] theorem SpanUnit.freed_roster (u : SpanUnit) : u.freed.roster = u.roster := by
  unfold freed; split_ifs <;> rfl

@[simp] theorem SpanUnit.freed_params (u : SpanUnit) : u.freed.params = u.params := by
  unfold freed; split_ifs <;> rfl

@[simp] theorem SpanUnit.freed_node (u : SpanUnit) (address : Nat) : u.freed.node address = u.node address := by
  simp [SpanUnit.node]

theorem SpanUnit.freed_answered (u : SpanUnit) (address : Nat) : (u.answered address).freed = u.freed.answered address := by
  unfold SpanUnit.answered
  rw [freed_node]
  split
  · rfl
  · exact u.freed_setNode _

theorem SpanUnit.freed_missed (u : SpanUnit) (address : Nat) : (u.missed address).freed = u.freed.missed address := by
  unfold SpanUnit.missed
  rw [freed_node, freed_params]
  split
  · rfl
  · split_ifs
    · rfl
    · exact u.freed_setNode _
    · exact u.freed_setNode _

theorem SpanUnit.freed_pollReported (u : SpanUnit) (address : Nat) (r : AttemptResult) :
    (u.pollReported address r).freed = u.freed.pollReported address r := by
  cases r with
  | silent | garbled => exact u.freed_missed address
  | done | busy | refused | notice | nothing => exact u.freed_answered address

/-! ## Membership and the miss limit -/

theorem pairwise_nodeAddresses : nodeAddresses.Pairwise (· < ·) := by decide

theorem mem_nodeAddresses {a : Nat} : a ∈ nodeAddresses ↔ 1 ≤ a ∧ a ≤ 15 := by
  simp only [nodeAddresses, List.mem_cons, List.not_mem_nil, or_false]
  omega

/-- The record of a member (R113): the one it has, or that of a new node. -/
theorem address_find?_getD (rs : List NodeRecord) (a : Nat) :
    ((rs.find? fun r => r.address == a).getD (unseenNode a)).address = a := by
  cases h : rs.find? fun r => r.address == a with
  | none => rfl
  | some r => simpa using List.find?_some h

theorem SpanUnit.RosterSound.newRoster {u : SpanUnit} (hu : u.RosterSound) (members : List Nat) :
    SpanUnit.RosterSound { u with roster := newRoster u.roster members } := by
  obtain ⟨hlimit, -, records⟩ := hu
  refine ⟨hlimit, ?_, ?_⟩
  · simp only [Machine.newRoster, List.pairwise_map, address_find?_getD]
    exact pairwise_nodeAddresses.filter _
  · intro r hr
    obtain ⟨a, ha, rfl⟩ := List.mem_map.mp hr
    obtain ⟨hlow, hhigh⟩ := mem_nodeAddresses.mp (List.mem_filter.mp ha).1
    rw [address_find?_getD]
    refine ⟨hlow, hhigh, ?_⟩
    cases hf : u.roster.find? fun r => r.address == a with
    | none => exact ⟨Nat.zero_le _, fun _ => hlimit⟩
    | some r => exact (records r (List.mem_of_find?_eq_some hf)).2.2

theorem SpanUnit.kept_newRoster (u : SpanUnit) (members : List Nat) : u.Kept { u with roster := newRoster u.roster members } where
  state := rfl
  settle := rfl
  measure := rfl
  idle3 := rfl
  posts := rfl
  scheduler := rfl
  job := rfl
  sde := rfl
  srst := rfl
  pollMs := rfl
  roster hu := hu.newRoster members
  params := id
  discarded := id

theorem NodeRecord.clamped_address (r : NodeRecord) (limit : Nat) : (r.clamped limit).address = r.address := by
  unfold clamped; split_ifs <;> rfl

/-- R117: a new limit clamps the miss counts. -/
theorem SpanUnit.kept_missLimit (u : SpanUnit) {limit : Nat} (hlow : 1 ≤ limit) (hhigh : limit ≤ 15) :
    u.Kept { u with params := { u.params with missLimit := limit }, roster := u.roster.map fun r => r.clamped limit } where
  state := rfl
  settle := rfl
  measure := rfl
  idle3 := rfl
  posts := rfl
  scheduler := rfl
  job := rfl
  sde := rfl
  srst := rfl
  pollMs := rfl
  roster hu := by
    refine hu.map rfl hlow (fun r _ => r.clamped_address limit) fun r _ => ?_
    unfold NodeRecord.clamped
    split_ifs with h
    · exact ⟨le_rfl, fun h => absurd rfl h⟩
    · exact ⟨by simpa using Nat.le_of_not_le h, fun _ => by simpa using h⟩
  params := by
    rintro ⟨h1, h2, h3, h4, h5, h6, h7, h8, -, -⟩
    exact ⟨h1, h2, h3, h4, h5, h6, h7, h8, hlow, hhigh⟩
  discarded := id

/-- The reset of a roster: the members kept, UNSEEN with 0 misses (R98, R119). -/
theorem SpanUnit.RosterSound.reset {u v : SpanUnit} (hu : u.RosterSound) (hr : v.roster = resetRoster u.roster)
    (hp : v.params = u.params) : v.RosterSound :=
  hu.map hr (hp ▸ hu.1) (fun _ _ => rfl) fun _ _ => ⟨Nat.zero_le _, fun _ => by rw [hp]; exact hu.1⟩

end Sys2Proof.Machine

/-! Every command reaches the state it leaves by moves: the events of the spans by engine moves and then work moves, the acts of messages by
work moves alone. -/

namespace Sys2Proof.Machine

set_option Elab.async false -- one proof after another, as in the files under Laws/

theorem State.SameWork.refl (s : State) : s.SameWork s := ⟨rfl, rfl, rfl⟩

theorem State.SameWork.of_spans {s t : State} (hs : t.spans = s.spans) (he : t.table = s.table) (hp : t.params = s.params) :
    s.SameWork t := ⟨congrArg _ he, hs, hp⟩

@[simp] theorem State.setSpan_spans (s : State) (sp : Fin 4) (u : SpanUnit) : (s.setSpan sp u).spans = s.spans.set sp u := rfl

@[simp] theorem State.updateSpan_spans (s : State) (sp : Fin 4) (f : SpanUnit → SpanUnit) :
    (s.updateSpan sp f).spans = s.spans.set sp (f (s.span sp)) := rfl

namespace State.Reaches

variable {s t m : State}

theorem refl (s : State) : s.Reaches s := ⟨s, .refl, .refl⟩

theorem of_engine (h : s.EngineReaches t) : s.Reaches t := ⟨t, h, .refl⟩

theorem of_work (h : s.WorkReaches t) : s.Reaches t := ⟨s, .refl, h⟩

theorem after (h : s.EngineReaches m) : m.Reaches t → s.Reaches t
  | ⟨n, he, hw⟩ => ⟨n, h.trans he, hw⟩

theorem trans_work (h : m.WorkReaches t) : s.Reaches m → s.Reaches t
  | ⟨n, he, hw⟩ => ⟨n, he, hw.trans h⟩

end State.Reaches

theorem State.EngineReaches.update {s : State} (sp : Fin 4) {f : SpanUnit → SpanUnit} (h : (s.span sp).EngineMoved (f (s.span sp))) :
    s.EngineReaches (s.updateSpan sp f) := .unit sp h

theorem State.WorkReaches.update {s : State} (sp : Fin 4) {f : SpanUnit → SpanUnit}
    (h : (s.span sp).WorkMoved s.params.attempts (f (s.span sp))) : s.WorkReaches (s.updateSpan sp f) := .unit sp h

theorem SpanUnit.EngineMoved.refl (u : SpanUnit) : u.EngineMoved u := .kept (.refl u)

/-! ## The end of a job -/

/-- After a hand-over the engine is free and the scheduler decides; a QUIESCED span decides nothing (R49, R77, R91). -/
theorem State.jobEnded_eq (s : State) (sp : Fin 4) : s.jobEnded sp = (s.updateSpan sp SpanUnit.freed).schedule sp := by
  unfold State.jobEnded SpanUnit.freed State.updateSpan
  simp only [State.setSpan_span_self]
  by_cases h : (s.span sp).state = .quiescing
  · have hq : (s.span sp).jobDone.state = .quiescing := h
    simp [h, hq, State.schedule]
  · have hq : (s.span sp).jobDone.state ≠ .quiescing := h
    rw [if_neg hq, if_neg h]

/-- A job whose outcome has been handed over, with a report to the roster in between, is a move that ends the job, the report, and the
decision. -/
theorem State.Reaches.jobEnded {s x y : State} {sp : Fin 4} {report : SpanUnit → SpanUnit}
    (hended : s.EngineReaches (x.updateSpan sp SpanUnit.freed)) (hkept : ∀ u : SpanUnit, u.Kept (report u))
    (hfreed : ∀ u, (report u).freed = report u.freed) (htable : y.table = x.table) (hparams : y.params = x.params)
    (hspans : y.spans = (x.setSpan sp (report (x.span sp))).spans) : s.Reaches (y.jobEnded sp) := by
  rw [State.jobEnded_eq]
  refine .trans_work (.schedule _ sp) (.of_engine (hended.trans ?_))
  have hunit : ((x.updateSpan sp SpanUnit.freed).span sp).EngineMoved (report (x.span sp).freed) := by
    rw [State.updateSpan_span_self]
    exact .kept (hkept _)
  refine (State.EngineReaches.unit sp hunit).trans (.single (.same (.of_spans ?_ ?_ ?_)))
  · have hspan : y.span sp = report (x.span sp) := by
      have h := congrArg (fun v : Vector SpanUnit 4 => v[sp]) hspans
      exact h.trans (x.setSpan_span_self sp _)
    simp [hspan, hspans, hfreed]
  · simpa using htable
  · simpa using hparams

/-- Whether a job's outcome is reported as an answer (R77). -/
theorem State.Reaches.reported {s x : State} {sp : Fin 4} (hended : s.EngineReaches (x.updateSpan sp SpanUnit.freed)) (b : Bool)
    (address : Nat) : s.Reaches ((if b then x.answered sp address else x).jobEnded sp) := by
  split_ifs
  · exact .jobEnded hended (fun u => u.kept_answered address) (fun u => u.freed_answered address) (by simp) (by simp)
      (x.answered_spans sp address)
  · exact .jobEnded (report := id) hended (fun u => .refl u) (fun _ => rfl) rfl rfl (by simp)

theorem State.Reaches.handOver {s : State} {sp : Fin 4} {j : Job} {r : AttemptResult} (hj : (s.span sp).job = some j)
    (hp : j.phase.AwaitsResult) (hr : r.Fits j) : s.Reaches (s.handOver sp j r) := by
  unfold State.handOver
  cases hk : j.kind with
  | poll =>
    exact .jobEnded (.update sp (.ended hj hp (.inl hk))) (fun u => u.kept_pollReported j.node r) (fun u => u.freed_pollReported j.node r)
      (by simp) (by simp) (s.pollOutcome_spans sp j.node r)
  | deferred =>
    exact .reported (.single (.deferredEnded sp r hj hp hk hr)) _ j.node
  | post =>
    refine .reported ?_ _ j.node
    cases hposts : (s.span sp).posts with
    | nil =>
      have h : s.postEnded sp (j.outcome r).1 = s := by simp [State.postEnded, hposts]
      rw [h]
      exact .update sp (.ended hj hp (.inr ⟨hk, hposts⟩))
    | cons p rest =>
      refine (Relation.ReflTransGen.single (.postEnded sp hj hp hk hposts)).trans (.single (.same (.of_spans ?_ ?_ ?_))) <;>
      · simp only [State.postEnded, hposts]
        split <;> simp [State.setEntries]

/-! ## The end of an attempt -/

theorem AttemptResult.Fits.counted {j : Job} {r : AttemptResult} (h : r.Fits j) (last : Option AttemptResult) :
    r.Fits { j with lastResult := last } := by
  cases r with
  | garbled d => cases d <;> exact h
  | _ => exact h

theorem Job.begun_lt_of_not_endsWith {j : Job} {r : AttemptResult} (h : ¬ j.endsWith r = true) : j.begun < j.limit := by
  unfold Job.endsWith at h
  split at h
  · exact absurd rfl h
  · exact absurd rfl h
  · simpa using h

theorem State.Reaches.attemptEnded {s : State} {sp : Fin 4} {j : Job} {r : AttemptResult} (hj : (s.span sp).job = some j)
    (hp : j.phase.AwaitsResult) (hr : r.Fits j) : s.Reaches (s.attemptEnded sp r) := by
  unfold State.attemptEnded
  rw [hj]
  dsimp only
  refine .after (.unit sp (.counted r hj)) ?_
  split_ifs with hends
  · exact .handOver (by rw [State.setSpan_span_self]) hp (hr.counted _)
  · refine .of_engine ?_
    have hlimit := Job.begun_lt_of_not_endsWith (not_or.mp hends).2
    rw [← State.setSpan_setSpan (v := SpanUnit.retry _ _ _)]
    refine .unit sp ?_
    rw [State.setSpan_span_self]
    exact .retried r rfl hp hlimit

theorem number16_le (high low : Byte) : number16 high low ≤ 65535 := by
  have := high.isLt
  have := low.isLt
  unfold number16
  omega

/-- Table 4-3: what an answer of the right shape carries fits the job; every other is GARBLED with nothing. -/
theorem Job.fits_readAnswer (j : Job) (answer : Byte) (middle : List Byte) : (j.readAnswer answer middle).Fits j := by
  obtain h | ⟨⟨rfl, h⟩ | ⟨rfl, rfl⟩ | ⟨c, rfl, rfl, hc⟩ | ⟨kind, high, low, hpoll, rfl, rfl, hkind⟩ | ⟨hpoll, rfl, rfl⟩, -⟩ :=
    j.readAnswer_garbled_or_wellShaped answer middle
  · rw [h]; trivial
  · rw [j.readAnswer_done]
    split_ifs at h ⊢ with hread
    · exact fun _ => h
    · exact fun hop => absurd hop hread
  · exact trivial
  · rw [j.readAnswer_refused, if_neg hc]
    exact hc
  · rw [j.readAnswer_notice, if_pos ⟨hpoll, hkind⟩]
    exact ⟨hkind.1, hkind.2, number16_le high low⟩
  · rw [j.readAnswer_nothing, if_pos hpoll]
    trivial

/-- R69: a response is judged to an answer that fits the job. -/
theorem Job.fits_judge (j : Job) (chars : List LineChar) : (j.judge chars).Fits j := by
  obtain h | ⟨node, answer, middle, check, rfl, hlen⟩ := j.judge_garbled_or_cleanChars chars
  · rw [h]; trivial
  · rw [j.judge_cleanChars _ _ _ hlen]
    split_ifs
    · unfold Job.dataBearing
      split_ifs with h
      · exact h.2.1
      · trivial
    · trivial
    · exact j.fits_readAnswer answer middle

/-! ## Events of a span -/

theorem SpanUnit.phase_eq_some {u : SpanUnit} {p : Phase} : u.phase = some p ↔ ∃ j, u.job = some j ∧ j.phase = p := by
  simp [SpanUnit.phase]

theorem SpanUnit.moved_turnaroundCompleted (u : SpanUnit) : u.EngineMoved u.turnaroundCompleted := by
  unfold SpanUnit.turnaroundCompleted
  split
  · exact .refl u
  · next j hj =>
    split
    · next ms hp => exact .attemptBegun hj hp
    · exact .refl u

theorem SpanUnit.moved_commandSent (u : SpanUnit) (lineActive : Bool) : u.EngineMoved (u.commandSent lineActive) := by
  unfold SpanUnit.commandSent
  split
  · next frame h =>
    obtain ⟨j, hj, hp⟩ := phase_eq_some.mp h
    have hmove := EngineMoved.commandSent (p := if lineActive then .receiving else .window u.params.responseMs) hj hp
      (by split_ifs <;> trivial)
    simpa [SpanUnit.setPhase, hj] using hmove
  · exact .refl u

theorem SpanUnit.moved_responseStarted (u : SpanUnit) : u.EngineMoved u.responseStarted := by
  unfold SpanUnit.responseStarted
  split
  · next ms h =>
    obtain ⟨j, hj, hp⟩ := phase_eq_some.mp h
    simpa [SpanUnit.setPhase, hj] using EngineMoved.responseStarted hj hp
  · exact .refl u
  · exact .refl u
  · exact .idle nofun
  · exact .idle nofun
  · exact .idle nofun

theorem SpanUnit.moved_lineIdle (u : SpanUnit) : u.EngineMoved u.lineIdle := by
  unfold SpanUnit.lineIdle
  split
  · exact u.moved_turnaroundCompleted
  · next h => exact .idle (by simp [h])
  · next h => exact .idle (by simp [h])
  · exact .refl u
  · exact .refl u
  · exact .refl u

theorem SpanUnit.moved_backoffExpired (u : SpanUnit) : u.EngineMoved u.backoffExpired := by
  unfold SpanUnit.backoffExpired
  split
  · exact .refl u
  · next j hj =>
    split
    · next ms hp => exact .backedOff hj hp
    · exact .refl u

/-- An attempt ends with SDn idle or not: the idle measure first, then the attempt (R64, R68, R69). -/
theorem State.Reaches.idleAttemptEnded {s : State} {sp : Fin 4} {j : Job} {r : AttemptResult} (idle : Bool)
    (hj : (s.span sp).job = some j) (hp : j.phase.AwaitsResult) (hr : r.Fits j) :
    s.Reaches ((s.updateSpan sp fun u => { u with idle3 := idle }).attemptEnded sp r) := by
  refine .after (.update sp (.idle fun _ ms h => ?_)) (.attemptEnded (by rw [State.updateSpan_span_self]; exact hj) hp hr)
  obtain ⟨j', hj', hp'⟩ := SpanUnit.phase_eq_some.mp h
  obtain rfl : j' = j := Option.some.inj (hj'.symm.trans hj)
  rw [hp'] at hp
  exact hp

theorem State.Reaches.windowExpired (s : State) (sp : Fin 4) : s.Reaches (s.windowExpired sp) := by
  unfold State.windowExpired
  split
  · next ms h =>
    obtain ⟨j, hj, hp⟩ := SpanUnit.phase_eq_some.mp h
    exact .idleAttemptEnded true hj (by rw [hp]; trivial) trivial
  · exact .refl s

theorem State.Reaches.responseEnded (s : State) (sp : Fin 4) (chars : List LineChar) : s.Reaches (s.responseEnded sp chars) := by
  unfold State.responseEnded
  split
  · exact .of_engine (.update sp (SpanUnit.moved_lineIdle _))
  · next j hj =>
    split
    · next hp => exact .idleAttemptEnded true hj (by rw [hp]; trivial) (j.fits_judge chars)
    · exact .of_engine (.update sp (SpanUnit.moved_lineIdle _))

theorem State.Reaches.responseOverlong (s : State) (sp : Fin 4) : s.Reaches (s.responseOverlong sp) := by
  unfold State.responseOverlong
  split
  · next h =>
    obtain ⟨j, hj, hp⟩ := SpanUnit.phase_eq_some.mp h
    exact .idleAttemptEnded false hj (by rw [hp]; trivial) trivial
  · exact .refl s

/-! ## Events that close a span, timers of the table -/

/-- A span that leaves its open states, with what the idle measure then is (R92, R96). -/
theorem State.WorkReaches.shutSpan {s : State} {sp : Fin 4} {target : SpanState} {scheduler : Scheduler} {o : CompletionOutcome}
    (idle : Bool) (ho : (s.span sp).state.isOpen = true) (ht : target = .off ∨ target = .faulted)
    (hs : scheduler = resetScheduler ∨ scheduler = { (s.span sp).scheduler with pollTimer := .stopped })
    (hout : o = .spanReset ∨ o = .lineFault) :
    s.WorkReaches ((s.shutSpan sp target scheduler o).updateSpan sp fun u => { u with idle3 := idle }) :=
  .tail (.single (.closed sp (.shut idle ho ht hs) hout))
    (.same (.of_spans (by simp [State.shutSpan]) (by simp [State.shutSpan, State.cleanupClaim, State.setEntries])
      (by simp)))

theorem State.WorkReaches.turnOff {s : State} {sp : Fin 4} (ho : (s.span sp).state.isOpen = true) :
    s.WorkReaches (s.shutSpan sp .off resetScheduler .spanReset) := by
  have h := State.WorkReaches.shutSpan (s.span sp).idle3 ho (.inl rfl) (.inl rfl) (.inl rfl)
  refine h.tail (.same (.of_spans ?_ (by simp) (by simp)))
  simp [State.shutSpan, SpanUnit.shut]

theorem State.WorkReaches.spanOff (s : State) (sp : Fin 4) : s.WorkReaches (s.spanOff sp).1 := by
  unfold State.spanOff
  split
  · exact .refl
  · next h => exact .turnOff (by rw [h]; rfl)
  · next h => exact .turnOff (by rw [h]; rfl)
  · next h => exact .turnOff (by rw [h]; rfl)
  · next h => exact .turnOff (by rw [h]; rfl)
  · next h => exact .single (.closed sp (.off h) (.inl rfl))

theorem State.WorkReaches.lineFault (s : State) (sp : Fin 4) : s.WorkReaches (s.lineFault sp) := by
  unfold State.lineFault
  dsimp only
  split_ifs with h
  · exact (State.WorkReaches.shutSpan false h (.inr rfl) (.inr rfl) (.inr rfl)).tail (.same ⟨rfl, rfl, rfl⟩)
  · exact .refl

theorem State.WorkReaches.decided {s t : State} (sp : Fin 4) (h : s.WorkReaches t) : s.WorkReaches (t.schedule sp) :=
  h.trans (State.WorkReaches.schedule t sp)

theorem State.WorkReaches.settleExpired (s : State) (sp : Fin 4) : s.WorkReaches (s.settleExpired sp) := by
  unfold State.settleExpired
  split_ifs with h
  · exact .decided sp (.unit sp (.settled h))
  · exact .refl

theorem State.WorkReaches.pollTimerExpired (s : State) (sp : Fin 4) : s.WorkReaches (s.pollTimerExpired sp) := by
  unfold State.pollTimerExpired
  split
  · next ms h =>
    dsimp only
    split_ifs
    · exact .unit sp (.pollExpired h)
    · exact .decided sp (.unit sp (.pollExpired h))
  · exact .refl
  · exact .refl

theorem State.WorkReaches.removed {s : State} {k : Key} {e : Entry} (he : s.table.find k = some e) (hs : e.isSubject = false) :
    s.WorkReaches (s.setTable (s.table.free k)) := by
  obtain ⟨-, rfl⟩ := find_eq_some he
  exact .single (.removed he hs)

theorem Entry.isSubject_of_isHeld {e : Entry} (h : e.state.isHeld = true) : e.isSubject = false := by
  cases hs : e.state <;> simp_all [Entry.isSubject, EntryState.isHeld, EntryState.isRunning, EntryState.isCancelling]

theorem Entry.isSubject_of_isDelivered {e : Entry} (h : e.state.isDelivered = true) : e.isSubject = false := by
  cases hs : e.state <;> simp_all [Entry.isSubject, EntryState.isDelivered, EntryState.isRunning, EntryState.isCancelling]

theorem State.WorkReaches.discardExpired (s : State) (k : Key) : s.WorkReaches (s.discardExpired k) := by
  unfold State.discardExpired
  split
  · exact .refl
  · next e he =>
    split_ifs with h
    · exact (State.WorkReaches.removed he (Entry.isSubject_of_isHeld h)).tail (.same ⟨rfl, rfl, rfl⟩)
    · exact .refl

theorem State.WorkReaches.lingerExpired (s : State) (k : Key) : s.WorkReaches (s.lingerExpired k) := by
  unfold State.lingerExpired
  split
  · exact .refl
  · next e he =>
    split_ifs with h
    · exact .removed he (Entry.isSubject_of_isDelivered h)
    · exact .refl

/-- Every event reaches the state that it leaves. -/
theorem State.Event.reaches {s t : State} (h : s.Event t) : s.Reaches t := by
  cases h with
  | discardExpired k => exact .of_work (.discardExpired s k)
  | lingerExpired k => exact .of_work (.lingerExpired s k)
  | settleExpired sp => exact .of_work (.settleExpired s sp)
  | pollTimerExpired sp => exact .of_work (.pollTimerExpired s sp)
  | turnaroundCompleted sp => exact .of_engine (.update sp (SpanUnit.moved_turnaroundCompleted _))
  | commandSent sp lineActive => exact .of_engine (.update sp (SpanUnit.moved_commandSent _ lineActive))
  | responseStarted sp => exact .of_engine (.update sp (SpanUnit.moved_responseStarted _))
  | backoffExpired sp => exact .of_engine (.update sp (SpanUnit.moved_backoffExpired _))
  | windowExpired sp => exact .windowExpired s sp
  | responseEnded sp chars => exact .responseEnded s sp chars
  | responseOverlong sp => exact .responseOverlong s sp
  | lineFault sp => exact .of_work (.lineFault s sp)

end Sys2Proof.Machine

/-! What an accepted SET may change (Table 9-1), and the acts of messages as work moves. -/

namespace Sys2Proof.Machine

set_option Elab.async false -- one proof after another, as in the files under Laws/

/-! ## Values of Table 9-1 -/

theorem number1?_eq_some {low high n : Nat} {value : List Byte} (h : number1? low high value = some n) : low ≤ n ∧ n ≤ high := by
  unfold number1? at h
  split at h
  · split_ifs at h with hb
    cases h
    exact hb
  · cases h

theorem number2?_eq_some {low high n : Nat} {value : List Byte} (h : number2? low high value = some n) : low ≤ n ∧ n ≤ high := by
  unfold number2? at h
  split at h
  · split_ifs at h with hb
    cases h
    exact hb
  · cases h

/-- A change whose value is in the range of Table 9-1. -/
def Change.InRange : Change → Prop
  | .discardMs n => 10 ≤ n ∧ n ≤ 5000
  | .lingerMs n => n ≤ 5000
  | .quota _ n => 1 ≤ n ∧ n ≤ 8
  | .attempts n => 1 ≤ n ∧ n ≤ 15
  | .postBurst n => 1 ≤ n ∧ n ≤ 16
  | .responseMs _ n => 1 ≤ n ∧ n ≤ 50
  | .backoffMs _ n => 1 ≤ n ∧ n ≤ 100
  | .settleMs _ n => n ≤ 1000
  | .pollMs _ n => n ≤ 1000
  | .missLimit _ n => 1 ≤ n ∧ n ≤ 15
  | .tier _ _ | .rate _ _ | .closedAnswer _ _ | .roster _ _ | .route _ _ | .defaultSpan _ | .alertReporting _ | .alertEnable _ _ => True

/-- R147: a change that is asked for has passed the value check. -/
theorem requestedChange?_inRange {r : Router} {p : ParamRef} {value : List Byte} {c : Change}
    (h : requestedChange? r p value = some c) : c.InRange := by
  cases p with
  | route i =>
    simp only [requestedChange?] at h
    split at h
    · cases h
    · cases h; trivial
    · split_ifs at h
      cases h; trivial
  | discardMs | lingerMs | settleMs | pollMs =>
    obtain ⟨n, hn, rfl⟩ := Option.map_eq_some_iff.mp h
    have := number2?_eq_some hn
    simpa [Change.InRange] using this
  | quota | attempts | postBurst | responseMs | backoffMs | missLimit =>
    obtain ⟨n, hn, rfl⟩ := Option.map_eq_some_iff.mp h
    exact number1?_eq_some hn
  | tier | rate | closedAnswer | roster | defaultSpan | alertReporting | alertEnable =>
    obtain ⟨n, -, rfl⟩ := Option.map_eq_some_iff.mp h
    trivial

/-- A change of a parameter that neither the scheduler nor the roster follows. -/
theorem SpanUnit.kept_params (u : SpanUnit) {p : SpanParams} (hpoll : p.pollMs = u.params.pollMs)
    (hlimit : p.missLimit = u.params.missLimit) (hrange : u.params.InRange → p.InRange) : u.Kept { u with params := p } where
  state := rfl
  settle := rfl
  measure := rfl
  idle3 := rfl
  posts := rfl
  scheduler := rfl
  job := rfl
  sde := rfl
  srst := rfl
  pollMs := hpoll
  roster hu := by simpa only [SpanUnit.RosterSound, hlimit] using hu
  params := hrange
  discarded := id

/-- A post dropped under FAIL is counted alone (R36). -/
theorem SpanUnit.kept_postsDiscarded (u : SpanUnit) :
    u.Kept { u with postsDiscarded := saturate Config.counterTop u.postsDiscarded } :=
  { SpanUnit.Kept.refl u with
    roster := id
    params := id
    discarded := fun _ => saturate_le _ _ }

namespace State.WorkReaches

variable {s : State}

theorem updateParams (sp : Fin 4) {f : SpanParams → SpanParams} (hpoll : ∀ p, (f p).pollMs = p.pollMs)
    (hlimit : ∀ p, (f p).missLimit = p.missLimit) (hrange : ∀ p : SpanParams, p.InRange → (f p).InRange) :
    s.WorkReaches (s.updateParams sp f) :=
  .unit sp (.kept (SpanUnit.kept_params _ (hpoll _) (hlimit _) (hrange _)))

theorem setParams {p : ParameterStore} (h : ParamsInRange s → ParamsInRange (s.setParams p)) : s.WorkReaches (s.setParams p) :=
  .single (.params h)

theorem setRoster (sp : Fin 4) (members : List Nat) : s.WorkReaches (s.setRoster sp members) := by
  have h : s.WorkReaches (s.updateSpan sp fun u => { u with roster := newRoster u.roster members }) :=
    .unit sp (.kept (SpanUnit.kept_newRoster _ members))
  unfold State.setRoster
  dsimp only
  split_ifs
  · exact .decided sp h
  · exact h

theorem setMissLimit (sp : Fin 4) {limit : Nat} (hlow : 1 ≤ limit) (hhigh : limit ≤ 15) : s.WorkReaches (s.setMissLimit sp limit) := by
  refine (State.WorkReaches.unit sp (.kept ((s.span sp).kept_missLimit hlow hhigh))).tail (.same (.of_spans ?_ ?_ ?_))
  · simp [State.setMissLimit, offers_spans]
  · simp
  · simp

/-- An accepted SET (R147, R148). -/
theorem apply {c : Change} (hc : c.InRange) : s.WorkReaches (s.apply c) := by
  cases c with
  | discardMs n =>
    refine .setParams ?_
    rintro ⟨-, -, h⟩
    exact ⟨hc.1, hc.2, h⟩
  | lingerMs n =>
    refine .setParams ?_
    rintro ⟨h1, h2, -, h⟩
    exact ⟨h1, h2, hc, h⟩
  | attempts n =>
    refine .setParams ?_
    rintro ⟨h1, h2, h3, -, -, h⟩
    exact ⟨h1, h2, h3, hc.1, hc.2, h⟩
  | postBurst n =>
    refine .setParams ?_
    rintro ⟨h1, h2, h3, h4, h5, -, -, h⟩
    exact ⟨h1, h2, h3, h4, h5, hc.1, hc.2, h⟩
  | tier o t => exact .setParams id
  | quota sp n =>
    refine .updateParams (f := fun p => { p with quota := n }) sp (fun _ => rfl) (fun _ => rfl) ?_
    rintro p ⟨-, -, h⟩
    exact ⟨hc.1, hc.2, h⟩
  | rate sp r => exact .updateParams (f := fun p => { p with rate := r }) sp (fun _ => rfl) (fun _ => rfl) fun _ h => h
  | closedAnswer sp a => exact .updateParams (f := fun p => { p with closedAnswer := a }) sp (fun _ => rfl) (fun _ => rfl) fun _ h => h
  | responseMs sp n =>
    refine .updateParams (f := fun p => { p with responseMs := n }) sp (fun _ => rfl) (fun _ => rfl) ?_
    rintro p ⟨h1, h2, -, -, h⟩
    exact ⟨h1, h2, hc.1, hc.2, h⟩
  | backoffMs sp n =>
    refine .updateParams (f := fun p => { p with backoffMs := n }) sp (fun _ => rfl) (fun _ => rfl) ?_
    rintro p ⟨h1, h2, h3, h4, -, -, h⟩
    exact ⟨h1, h2, h3, h4, hc.1, hc.2, h⟩
  | settleMs sp n =>
    refine .updateParams (f := fun p => { p with settleMs := n }) sp (fun _ => rfl) (fun _ => rfl) ?_
    rintro p ⟨h1, h2, h3, h4, h5, h6, -, h⟩
    exact ⟨h1, h2, h3, h4, h5, h6, hc, h⟩
  | pollMs sp n => exact .unit sp (.pollInterval hc)
  | roster sp members => exact .setRoster sp members
  | missLimit sp n => exact .setMissLimit sp hc.1 hc.2
  | route | defaultSpan | alertReporting | alertEnable => exact .same ⟨rfl, rfl, rfl⟩

theorem setParameter (code index : Byte) (value : List Byte) : s.WorkReaches (s.setParameter code index value).1 := by
  unfold State.setParameter
  split
  · exact .refl
  · exact .refl
  · split
    · exact .refl
    · next c hc =>
      split_ifs
      · exact .apply (requestedChange?_inRange hc)
      · exact .refl

/-! ## Requests, posts and cancels -/

theorem answerRepeat {k : Key} {e : Entry} (he : s.table.find k = some e) : s.WorkReaches (s.answerRepeat e).1 := by
  obtain ⟨-, rfl⟩ := find_eq_some he
  unfold State.answerRepeat
  split
  · exact .refl
  · exact .refl
  · next hs => exact .single (.resumed he hs)
  · next r ms hs =>
    split_ifs
    · exact .removed he (Entry.isSubject_of_isHeld (by rw [hs]; rfl))
    · exact .single (.delivered he hs)
  · exact .refl

theorem acceptOpen {k : Key} (flag : Bool) {sp : Fin 4} (node : Nat) (hk : s.table.find k = none) (ho : (s.span sp).state.isOpen = true) :
    s.WorkReaches (s.acceptOpen k flag sp node).1 := by
  unfold State.acceptOpen
  split
  · exact .refl
  · next t hr =>
    have h : s.WorkReaches (s.setTable (t.append (newEntry k flag sp node .queued (s.span sp).posts.length))) :=
      .single (.accepted hk hr ho)
    dsimp only
    split_ifs
    · exact .decided sp h
    · exact h

theorem acceptClosed {k : Key} (flag : Bool) {sp : Fin 4} (node : Nat) (hk : s.table.find k = none) :
    s.WorkReaches (s.acceptClosed k flag sp node).1 := by
  unfold State.acceptClosed
  split
  · exact .refl
  · split
    · exact .refl
    · next t hr => exact .single (.acceptedClosed hk hr)

theorem request (k : Key) (flag : Bool) : s.WorkReaches (s.request k flag).1 := by
  unfold State.request
  split
  · next e he => exact .answerRepeat he
  · next hk =>
    split
    · exact .refl
    · next sp node _ =>
      split_ifs with ho
      · exact .acceptOpen flag node hk ho
      · exact .acceptClosed flag node hk

/-- A POST that is appended, or dropped and counted under FAIL (R35, R36). -/
theorem acceptPost (o : Fin 8) (unit : Fin 4096) (item : Byte) (length : Nat) (data : List Byte) :
    s.WorkReaches (s.acceptPost o unit item length data).1 := by
  unfold State.acceptPost
  split
  · exact .refl
  · next sp node _ =>
    dsimp only
    split_ifs with ho hl
    · exact .refl
    · exact .decided sp (.unit sp (.posted ho (Nat.lt_of_not_le hl) rfl))
    · split
      · exact .refl
      · exact (State.WorkReaches.unit sp (.kept (s.span sp).kept_postsDiscarded)).tail (.same ⟨rfl, rfl, rfl⟩)

theorem spanEnable (sp : Fin 4) : s.WorkReaches (s.spanEnable sp).1 := by
  unfold State.spanEnable
  split
  · next h => exact .unit sp (.enabled h)
  · exact .refl
  · exact .refl
  · next h => exact .unit sp (.resumed (.inl h))
  · next h => exact .decided sp (.unit sp (.resumed (.inr h)))
  · exact .refl

theorem spanQuiesce (sp : Fin 4) : s.WorkReaches (s.spanQuiesce sp).1 := by
  unfold State.spanQuiesce
  split
  · next h => exact .unit sp (.quiesced h)
  all_goals exact .refl

/-- The act of a message's owner. -/
theorem act (o : Fin 8) (m : HostMessage) : s.WorkReaches (s.act o m).1 := by
  cases m with
  | request key flag => exact .request key flag
  | post unit item length data => exact .acceptPost o unit item length data
  | cancelKey key => exact .single (.cancelled _)
  | cancelAll => exact .single (.cancelled _)
  | span sp action =>
    cases action with
    | enable => exact .spanEnable sp
    | quiesce => exact .spanQuiesce sp
    | off => exact .spanOff s sp
  | set code index value => exact .setParameter code index value
  | get | clear | credit | restart => exact .same ⟨rfl, rfl, rfl⟩

theorem hardReset (s : State) (control : RelayControl) (bitRate : BitRate) : s.WorkReaches (s.hardReset control bitRate) :=
  .single (.reset rfl (.inr ⟨fun sp => by simp [State.hardReset, State.reset, State.span], rfl⟩))

theorem restartEvent (s : State) : s.WorkReaches s.restartEvent :=
  .single (.reset rfl (.inl ⟨fun sp => by simp [State.restartEvent, State.takeReady, State.sendUnsolicited, State.setLink, State.span], rfl⟩))

end State.WorkReaches

/-! ## Every step -/

theorem State.Reaches.trans_same {s m t : State} (h : s.Reaches m) (hsame : m.SameWork t) : s.Reaches t := .trans_work (.same hsame) h

/-- What a command leaves is reached from what it finds. -/
theorem stepKeeps_reaches (s : State) : StepKeeps (fun t => s.SameWork t) (fun t => s.Reaches t) where
  found h := .of_work (.same h)
  control _ h := h.trans_same ⟨rfl, rfl, rfl⟩
  link _ h := h.trans_same ⟨rfl, rfl, rfl⟩
  alerts _ h := h.trans_same ⟨rfl, rfl, rfl⟩
  takeNotice _ h := h.trans_same ⟨rfl, rfl, rfl⟩
  act o m h := .trans_work (.act o m) h
  event e h := .after (.same h) e.reaches
  hardReset t control bitRate h := .trans_work (.hardReset t control bitRate) (.of_work (.same h))
  restart h := .trans_work (.restartEvent _) (.of_work (.same h))

theorem State.Reaches.of_step {s t : State} (h : step s = .next t) : s.Reaches t :=
  (stepKeeps_reaches s).step (fun _ h => ⟨h.entries, h.spans, h.params⟩) (.refl s) h

/-- A property that every engine move and every work move keeps is kept by every step. -/
theorem State.Reaches.keeps {P : State → Prop} (hengine : ∀ s t : State, s.EngineMoved t → P s → P t)
    (hwork : ∀ s t : State, s.WorkMoved t → P s → P t) {s t : State} (h : s.Reaches t) (hs : P s) : P t := by
  obtain ⟨m, he, hw⟩ := h
  have hm : P m := by
    clear hw
    induction he with
    | refl => exact hs
    | tail _ hmove ih => exact hengine _ _ hmove ih
  induction hw with
  | refl => exact hm
  | tail _ hmove ih => exact hwork _ _ hmove ih

end Sys2Proof.Machine

/-! What the moves leave of one Span Unit: its outputs, posts, scheduler, job and roster stay sound (R33, R48, R57, R64, R70, R84, R112). -/

namespace Sys2Proof.Machine

set_option Elab.async false -- one proof after another, as in the files under Laws/

/-- All that a move can do to one Span Unit, under a limit of attempts for the jobs that begin. -/
inductive SpanUnit.Moved (attempts : Nat) (u : SpanUnit) : SpanUnit → Prop where
  | engine {v : SpanUnit} (h : u.EngineMoved v) : Moved attempts u v
  | work {v : SpanUnit} (h : u.WorkMoved attempts v) : Moved attempts u v
  | deferredEnded {j : Job} (hj : u.job = some j) (hp : j.phase.AwaitsResult) (hk : j.kind = .deferred) : Moved attempts u u.freed
  | postEnded {j : Job} {p : Post} {rest : List Post} (hj : u.job = some j) (hp : j.phase.AwaitsResult) (hposts : u.posts = p :: rest) :
      Moved attempts u (SpanUnit.freed { u with posts := rest })
  | deferredStarted (e : Entry) (high : Fin 9) (low : Fin 8) (hs : u.state = .active) (hj : u.job = none)
      (hd : u.pollDue = true → u.scheduler.passOver ≠ 2) : Moved attempts u (u.startDeferred e high low attempts)
  | closed {v : SpanUnit} {begun : Nat} (h : u.Closed v begun) : Moved attempts u v
  | restarted : Moved attempts u u.restarted
  | reset : Moved attempts u resetSpan

theorem State.EngineMoved.span {s t : State} (h : s.EngineMoved t) (sp : Fin 4) :
    t.span sp = s.span sp ∨ (s.span sp).Moved s.params.attempts (t.span sp) := by
  cases h with
  | same h => exact .inl (congrArg (fun v : Vector SpanUnit 4 => v[sp]) h.spans)
  | unit q h =>
    rw [State.setSpan_span]
    split_ifs with hq
    · subst hq
      exact .inr (.engine h)
    · exact .inl rfl
  | deferredEnded q r hj hp hk hr =>
    rw [State.setSpan_span]
    split_ifs with hq
    · subst hq
      exact .inr (.deferredEnded hj hp hk)
    · exact .inl rfl
  | postEnded q hj hp hk hposts =>
    rw [State.setSpan_span]
    split_ifs with hq
    · subst hq
      exact .inr (.postEnded hj hp hposts)
    · exact .inl rfl

theorem State.WorkMoved.span {s t : State} (h : s.WorkMoved t) (sp : Fin 4) :
    t.span sp = s.span sp ∨ (s.span sp).Moved s.params.attempts (t.span sp) := by
  cases h with
  | same h => exact .inl (congrArg (fun v : Vector SpanUnit 4 => v[sp]) h.spans)
  | unit q h =>
    rw [State.setSpan_span]
    split_ifs with hq
    · subst hq
      exact .inr (.work h)
    · exact .inl rfl
  | deferredStarted q high low hs hj hd he hel =>
    rw [State.setSpan_span]
    split_ifs with hq
    · subst hq
      exact .inr (.deferredStarted _ _ _ hs hj hd)
    · exact .inl rfl
  | closed q h ho =>
    rw [State.cleanupClaim_span, State.setSpan_span]
    split_ifs with hq
    · subst hq
      exact .inr (.closed h)
    · exact .inl rfl
  | reset he hs =>
    obtain ⟨hs, -⟩ | ⟨hs, -⟩ := hs
    · exact .inr (hs sp ▸ .restarted)
    · exact .inr (hs sp ▸ .reset)
  | params | resumed | delivered | removed | accepted | acceptedClosed | cancelled => exact .inl rfl

/-! ## Outputs -/

section
variable {u v : SpanUnit}

theorem SpanUnit.phase_of_job {j : Job} (hj : u.job = some j) : u.phase = some j.phase := by simp [SpanUnit.phase, hj]

/-- An engine that awaits a result does not send (R61). -/
theorem SpanUnit.OutputsSound.sde_of_awaits (hu : u.OutputsSound) {j : Job} (hj : u.job = some j) (hp : j.phase.AwaitsResult) :
    u.sde = false := by
  obtain ⟨-, hsde, -⟩ := hu
  rw [Bool.eq_false_iff]
  intro h
  obtain ⟨frame, hf⟩ := hsde.mp h
  rw [phase_of_job hj] at hf
  rw [Option.some.inj hf] at hp
  exact hp

theorem SpanUnit.OutputsSound.sde_of_no_job (hu : u.OutputsSound) (hj : u.job = none) : u.sde = false := by
  obtain ⟨-, hsde, -⟩ := hu
  simpa [SpanUnit.phase, hj] using hsde

theorem SpanUnit.OutputsSound.works (hu : u.OutputsSound) {j : Job} (hj : u.job = some j) : u.state = .active ∨ u.state = .quiescing := by
  obtain ⟨-, -, hjob, -⟩ := hu
  exact hjob (by rw [hj]; rfl)

theorem SpanUnit.OutputsSound.no_job_of_closed (hu : u.OutputsSound) (h : u.state.isOpen = false) : u.job = none := by
  cases hj : u.job with
  | none => rfl
  | some j => obtain h' | h' := hu.works hj <;> rw [h'] at h <;> cases h

/-- An attempt begins on a working span: SDEn is asserted and the measure held at 0 (R61, R95). -/
theorem SpanUnit.OutputsSound.beginAttempt (hu : u.OutputsSound) (hs : u.state = .active ∨ u.state = .quiescing) (j : Job) :
    (u.beginAttempt j).OutputsSound := by
  obtain ⟨hsrst, -, -, -, hsettle, -, -⟩ := hu
  refine ⟨hsrst, ?_, fun _ => hs, fun _ => rfl, hsettle, ?_, ?_⟩
  · simp [SpanUnit.beginAttempt, SpanUnit.phase]
  · obtain h | h := hs <;> simp [SpanUnit.beginAttempt, h, SpanState.isOpen]
  · simp [SpanUnit.beginAttempt]

/-- The engine of a working span goes to a phase in which it does not send, or stays in one. -/
theorem SpanUnit.OutputsSound.setQuiet (hu : u.OutputsSound) (hs : u.state = .active ∨ u.state = .quiescing) (hsde : u.sde = false)
    {j : Job} (hp : ∀ frame, j.phase ≠ .sending frame) : SpanUnit.OutputsSound { u with job := some j } := by
  obtain ⟨hsrst, -, -, -, hsettle, hstopped, hheld⟩ := hu
  refine ⟨hsrst, ?_, fun _ => hs, fun _ => rfl, hsettle, hstopped, hheld⟩
  simp [SpanUnit.phase, hsde, hp]

theorem SpanUnit.OutputsSound.enterTurnaround (hu : u.OutputsSound) (hs : u.state = .active ∨ u.state = .quiescing) (hsde : u.sde = false)
    (j : Job) : (u.enterTurnaround j).OutputsSound := by
  unfold SpanUnit.enterTurnaround
  split_ifs
  · exact hu.beginAttempt hs j
  · exact hu.setQuiet hs hsde (by simp)

theorem SpanUnit.retry_eq (u : SpanUnit) (j : Job) (r : AttemptResult) :
    u.retry j r = if r = .busy then { u with job := some { j with phase := .backoff u.params.backoffMs } } else u.enterTurnaround j := by
  cases r <;> simp [SpanUnit.retry]

/-- A job starts on a free engine, whatever the scheduler and the posts then are. -/
theorem SpanUnit.OutputsSound.started (hu : u.OutputsSound) (hs : u.state = .active) (hj : u.job = none) {scheduler : Scheduler}
    {posts : List Post} {pollPosition : Nat} (j : Job) :
    (SpanUnit.enterTurnaround { u with scheduler := scheduler, posts := posts, pollPosition := pollPosition } j).OutputsSound := by
  have hw : SpanUnit.OutputsSound { u with scheduler := scheduler, posts := posts, pollPosition := pollPosition } := hu
  exact hw.enterTurnaround (.inl hs) (hu.sde_of_no_job hj) j

theorem SpanUnit.OutputsSound.freed (hu : u.OutputsSound) {j : Job} (hj : u.job = some j) (hp : j.phase.AwaitsResult) :
    u.freed.OutputsSound := by
  have hsde := hu.sde_of_awaits hj hp
  have hs := hu.works hj
  obtain ⟨hsrst, -, -, -, hsettle, hstopped, hheld⟩ := hu
  unfold SpanUnit.freed SpanUnit.jobDone
  obtain h | h := hs <;> simp_all [SpanUnit.OutputsSound, SpanUnit.phase, SpanState.isOpen]

theorem SpanUnit.OutputsSound.kept (hu : u.OutputsSound) (h : u.Kept v) : v.OutputsSound := by
  simpa only [SpanUnit.OutputsSound, SpanUnit.phase, h.state, h.settle, h.measure, h.job, h.sde, h.srst] using hu

theorem SpanUnit.OutputsSound.engineMoved (hu : u.OutputsSound) (h : u.EngineMoved v) : v.OutputsSound := by
  cases h with
  | kept h => exact hu.kept h
  | idle => exact hu
  | attemptBegun hj hp => exact hu.beginAttempt (hu.works hj) _
  | backedOff hj hp =>
    refine hu.enterTurnaround (hu.works hj) ?_ _
    have hphase := phase_of_job hj
    obtain ⟨-, hsde, -⟩ := hu
    simpa [hphase, hp] using hsde
  | commandSent hj hp hawaits =>
    have hs := hu.works hj
    obtain ⟨hsrst, -, -, -, hsettle, -, -⟩ := hu
    refine ⟨hsrst, ?_, fun _ => hs, fun _ => rfl, hsettle, ?_, by simp⟩
    · simp only [SpanUnit.phase, Bool.false_eq_true, Option.map_some, Option.some.injEq, false_iff, not_exists]
      rintro frame rfl
      exact hawaits
    · obtain h | h := hs <;> simp [h, SpanState.isOpen]
  | responseStarted hj hp => exact hu.setQuiet (hu.works hj) (hu.sde_of_awaits hj (by rw [hp]; trivial)) (by simp)
  | @counted j r hj =>
    have hphase := phase_of_job hj
    simp only [SpanUnit.OutputsSound, hj, hphase, Option.isSome_some] at hu ⊢
    exact hu
  | retried r hj hp hlimit =>
    have hsde := hu.sde_of_awaits hj hp
    rw [retry_eq]
    split_ifs
    · exact hu.setQuiet (hu.works hj) hsde (by simp)
    · exact hu.enterTurnaround (hu.works hj) hsde _
  | ended hj hp _ => exact hu.freed hj hp

theorem SpanUnit.OutputsSound.workMoved {attempts : Nat} (hu : u.OutputsSound) (h : u.WorkMoved attempts v) : v.OutputsSound := by
  cases h with
  | kept h => exact hu.kept h
  | enabled h =>
    have hj := hu.no_job_of_closed (by rw [h]; rfl)
    have hsde := hu.sde_of_no_job hj
    simp [SpanUnit.OutputsSound, SpanUnit.enabled, SpanUnit.phase, hj, hsde, SpanState.isOpen]
  | resumed h => obtain h | h := h <;> simp_all [SpanUnit.OutputsSound, SpanUnit.phase, SpanState.isOpen]
  | quiesced h => cases hj : u.job <;> simp_all [SpanUnit.OutputsSound, SpanUnit.phase, SpanState.isOpen]
  | settled h => simp_all [SpanUnit.OutputsSound, SpanUnit.phase, SpanState.isOpen]
  | pollExpired => exact hu
  | pollStarted hs hj => exact hu.started hs hj _
  | postStarted hs hj hd hp =>
    unfold SpanUnit.startPost
    split
    · exact hu
    · exact hu.started hs hj _
  | posted => exact hu
  | pollInterval => exact hu

theorem SpanUnit.OutputsSound.closed {begun : Nat} (hu : u.OutputsSound) (h : u.Closed v begun) : v.OutputsSound := by
  cases h with
  | shut idle ho ht hs => obtain rfl | rfl := ht <;> simp [SpanUnit.OutputsSound, SpanUnit.shut, SpanUnit.phase, SpanState.isOpen]
  | off h =>
    have hj := hu.no_job_of_closed (by rw [h]; rfl)
    simp_all [SpanUnit.OutputsSound, SpanUnit.phase, SpanState.isOpen]

theorem SpanUnit.outputsSound_reset : resetSpan.OutputsSound := by
  simp [SpanUnit.OutputsSound, resetSpan, SpanUnit.phase, SpanState.isOpen]

theorem SpanUnit.OutputsSound.moved {attempts : Nat} (hu : u.OutputsSound) (h : u.Moved attempts v) : v.OutputsSound := by
  cases h with
  | engine h => exact hu.engineMoved h
  | work h => exact hu.workMoved h
  | deferredEnded hj hp => exact hu.freed hj hp
  | postEnded hj hp => exact SpanUnit.OutputsSound.freed (u := { u with posts := _ }) hu hj hp
  | deferredStarted e high low hs hj => exact hu.started hs hj _
  | closed h => exact hu.closed h
  | restarted => exact outputsSound_reset
  | reset => exact outputsSound_reset

/-! ## Posts -/

/-- The posts are sound by what the span's state, its posts and the kind of its job are. -/
theorem SpanUnit.PostsSound.congr (hu : u.PostsSound) (hs : v.state.isOpen = u.state.isOpen) (hp : v.posts = u.posts)
    (hj : v.job.map (fun j => j.kind) = u.job.map fun j => j.kind) : v.PostsSound := by
  have hkind (w : SpanUnit) : (∃ j, w.job = some j ∧ j.kind = .post) ↔ w.job.map (fun j => j.kind) = some .post := by simp
  simpa only [SpanUnit.PostsSound, hkind, hj, hs, hp] using hu

theorem SpanUnit.enterTurnaround_kind (u : SpanUnit) (j : Job) : (u.enterTurnaround j).job.map (fun j => j.kind) = some j.kind := by
  obtain ⟨begun, phase, h⟩ := u.enterTurnaround_job j
  simp [h]

theorem SpanUnit.freed_job (u : SpanUnit) : u.freed.job = none := by
  unfold freed; split_ifs <;> rfl

theorem SpanUnit.freed_posts (u : SpanUnit) : u.freed.posts = u.posts := by
  unfold freed; split_ifs <;> rfl

theorem SpanUnit.freed_isOpen (u : SpanUnit) : u.freed.state.isOpen = u.state.isOpen := by
  unfold freed
  split_ifs with h
  · simp [h, SpanState.isOpen]
  · rfl

/-- A job of another kind ends or starts beside the posts, which are not in progress (R33). -/
theorem SpanUnit.PostsSound.other (hu : u.PostsSound) (hs : v.state.isOpen = u.state.isOpen) (hp : v.posts = u.posts)
    (hj : ∀ j, u.job = some j → j.kind ≠ .post) (hj' : ∀ j, v.job = some j → j.kind ≠ .post) : v.PostsSound := by
  obtain ⟨hlength, htail, hhead, hclosed⟩ := hu
  have hnone : ¬ ∃ j, u.job = some j ∧ j.kind = .post := fun ⟨j, h, hk⟩ => hj j h hk
  have hnone' : ¬ ∃ j, v.job = some j ∧ j.kind = .post := fun ⟨j, h, hk⟩ => hj' j h hk
  refine ⟨hp ▸ hlength, hp ▸ htail, ?_, by rwa [hs, hp]⟩
  rw [hp, hhead]
  simp only [hnone, hnone']

theorem SpanUnit.PostsSound.engineMoved (hu : u.PostsSound) (h : u.EngineMoved v) : v.PostsSound := by
  cases h with
  | kept h => exact hu.congr (by rw [h.state]) h.posts (by rw [h.job])
  | idle => exact hu
  | attemptBegun hj hp => exact hu.congr rfl rfl (by simp [SpanUnit.beginAttempt, hj])
  | backedOff hj hp => exact hu.congr (by simp) (by simp) (by rw [enterTurnaround_kind, hj]; rfl)
  | commandSent hj => exact hu.congr rfl rfl (by simp [hj])
  | responseStarted hj => exact hu.congr rfl rfl (by simp [hj])
  | counted r hj => exact hu.congr rfl rfl (by simp [hj])
  | retried r hj =>
    rw [retry_eq]
    split_ifs
    · exact hu.congr rfl rfl (by simp [hj])
    · exact hu.congr (by simp) (by simp) (by rw [enterTurnaround_kind, hj]; rfl)
  | ended hj hp hk =>
    refine hu.other u.freed_isOpen u.freed_posts (fun j' hj' => ?_) (by simp [freed_job])
    obtain rfl := Option.some.inj (hj'.symm.trans hj)
    obtain hk | ⟨hk, hnil⟩ := hk
    · simp [hk]
    · obtain ⟨-, -, hhead, -⟩ := hu
      simpa [hnil, hj] using hhead

theorem SpanUnit.PostsSound.workMoved {attempts : Nat} (hu : u.PostsSound) (h : u.WorkMoved attempts v) : v.PostsSound := by
  cases h with
  | kept h => exact hu.congr (by rw [h.state]) h.posts (by rw [h.job])
  | enabled h =>
    obtain ⟨hlength, htail, hhead, -⟩ := hu
    exact ⟨hlength, htail, hhead, by simp [SpanUnit.enabled, SpanState.isOpen]⟩
  | resumed h => exact hu.congr (by obtain h | h := h <;> simp [h, SpanState.isOpen]) rfl rfl
  | quiesced h => exact hu.congr (by dsimp only; split_ifs <;> simp [h, SpanState.isOpen]) rfl rfl
  | settled h => exact hu.congr (by simp [h, SpanState.isOpen]) rfl rfl
  | pollExpired => exact hu
  | pollStarted hs hj hd =>
    refine hu.other (by simp) (by simp) (by simp [hj]) (fun j hjob => ?_)
    obtain ⟨begun, phase, hpoll⟩ := u.startPoll_job
    obtain rfl := Option.some.inj (hpoll.symm.trans hjob)
    simp [newJob]
  | postStarted hs hj hd hp =>
    obtain ⟨p, rest, hposts⟩ := List.exists_cons_of_ne_nil hp
    obtain ⟨hlength, htail, -, -⟩ := hu
    simp only [SpanUnit.startPost, hposts]
    rw [hposts] at hlength htail
    refine ⟨by simpa using hlength, by simpa using htail, ?_, by simp [hs, SpanState.isOpen]⟩
    obtain ⟨begun, phase, hjob⟩ := SpanUnit.enterTurnaround_job
      { u with
        posts := { p with inProgress := true } :: rest
        scheduler := { u.scheduler with
          runCount := saturate Config.runCountTop u.scheduler.runCount
          passOver := u.passOverAfter } }
      (newJob .post p.node .write p.item p.length p.data attempts)
    rw [hjob]
    simp [newJob]
  | posted hs hl hp =>
    obtain ⟨-, htail, hhead, -⟩ := hu
    refine ⟨by simpa using hl, ?_, ?_, by simp [hs]⟩
    · cases hposts : u.posts with
      | nil => simp
      | cons q rest =>
        simp only [hposts, List.tail_cons] at htail
        simp only [List.cons_append, List.tail_cons, List.mem_append, List.mem_singleton]
        rintro x (hx | rfl)
        · exact htail x hx
        · exact hp
    · rw [← hhead]
      cases hposts : u.posts with
      | nil => simp [hp]
      | cons q rest => simp
  | pollInterval => exact hu

theorem SpanUnit.PostsSound.moved {attempts : Nat} (hu : u.PostsSound) (h : u.Moved attempts v) : v.PostsSound := by
  cases h with
  | engine h => exact hu.engineMoved h
  | work h => exact hu.workMoved h
  | deferredEnded hj hp hk =>
    refine hu.other u.freed_isOpen u.freed_posts (fun j' hj' => ?_) (by simp [freed_job])
    obtain rfl := Option.some.inj (hj'.symm.trans hj)
    simp [hk]
  | @postEnded j p rest hj hp hposts =>
    obtain ⟨hlength, htail, -, hclosed⟩ := hu
    rw [hposts] at hlength htail hclosed
    have hrest : ∀ x ∈ rest, x.inProgress = false := htail
    simp only [SpanUnit.PostsSound, freed_posts, freed_job, freed_isOpen]
    refine ⟨by simp at hlength; omega, fun x hx => hrest x (List.mem_of_mem_tail hx), ?_, fun h => by simpa using hclosed h⟩
    cases rest with
    | nil => simp
    | cons q rest => simp [hrest q (by simp)]
  | deferredStarted e high low hs hj =>
    refine hu.other (by simp [SpanUnit.startDeferred]) (by simp [SpanUnit.startDeferred]) (by simp [hj]) (fun j hjob => ?_)
    have hkind := SpanUnit.enterTurnaround_kind
      { u with scheduler := { u.scheduler with runCount := 0, passOver := u.passOverAfter, high := high, low := low } }
      (newJob .deferred e.node (onSpan e.key.operation) e.key.item e.key.length e.key.data attempts)
    rw [SpanUnit.startDeferred] at hjob
    rw [hjob] at hkind
    simp only [Option.map_some, Option.some.injEq] at hkind
    simp [hkind, newJob]
  | closed h =>
    cases h with
    | shut idle ho ht hs => simp [SpanUnit.PostsSound, SpanUnit.shut]
    | off h => exact hu.congr (by simp [h, SpanState.isOpen]) rfl rfl
  | restarted => simp [SpanUnit.PostsSound, SpanUnit.restarted, resetSpan]
  | reset => simp [SpanUnit.PostsSound, resetSpan]

end

end Sys2Proof.Machine

/-! What the moves leave of one Span Unit, continued: its scheduler, its job, its turnaround and its roster; and with the parameters' ranges,
the invariants of the spans and of the rosters. -/

namespace Sys2Proof.Machine

set_option Elab.async false -- one proof after another, as in the files under Laws/

section
variable {u v : SpanUnit}

/-! ## Scheduler -/

/-- What the engine does leaves the scheduler and the poll interval alone, and open spans open. -/
theorem SpanUnit.EngineMoved.scheduler (h : u.EngineMoved v) :
    v.scheduler = u.scheduler ∧ v.params.pollMs = u.params.pollMs ∧ v.state.isOpen = u.state.isOpen := by
  cases h with
  | kept h => exact ⟨h.scheduler, h.pollMs, by rw [h.state]⟩
  | idle | attemptBegun | commandSent | responseStarted | counted => exact ⟨rfl, rfl, rfl⟩
  | backedOff => simp
  | retried r =>
    rw [retry_eq]
    split_ifs <;> simp
  | ended => exact ⟨by unfold SpanUnit.freed; split_ifs <;> rfl, by simp, u.freed_isOpen⟩

theorem SpanUnit.freed_scheduler (u : SpanUnit) : u.freed.scheduler = u.scheduler := by
  unfold freed; split_ifs <;> rfl

theorem SpanUnit.SchedulerSound.congr (hu : u.SchedulerSound) (hs : v.scheduler = u.scheduler) (hp : v.params.pollMs = u.params.pollMs)
    (ho : v.state.isOpen = u.state.isOpen) : v.SchedulerSound := by
  simpa only [SpanUnit.SchedulerSound, hs, hp, ho] using hu

/-- The pass-over count stays in its range at a decision that takes no due poll at its limit (R50). -/
theorem SpanUnit.SchedulerSound.passOverAfter_le (hu : u.SchedulerSound) (hd : u.pollDue = true → u.scheduler.passOver ≠ 2) :
    u.passOverAfter ≤ 2 := by
  obtain ⟨-, hpass, -⟩ := hu
  unfold SpanUnit.passOverAfter
  split_ifs with h
  · have := hd h
    omega
  · exact hpass

theorem SpanUnit.schedulerSound_of_stopped (hr : v.scheduler.runCount ≤ 16) (hp : v.scheduler.passOver ≤ 2)
    (ht : v.scheduler.pollTimer = .stopped) : v.SchedulerSound := ⟨hr, hp, fun _ => ht, fun _ => ht⟩

theorem SpanUnit.pollDue_iff (u : SpanUnit) :
    u.pollDue = true ↔ u.scheduler.pollTimer = .expired ∧ u.roster ≠ [] ∧ u.params.pollMs ≠ 0 := by
  simp [SpanUnit.pollDue, and_assoc]

theorem SpanUnit.SchedulerSound.workMoved {attempts : Nat} (hu : u.SchedulerSound) (h : u.WorkMoved attempts v) : v.SchedulerSound := by
  have hpassOver := hu.passOverAfter_le
  have hwhole := hu
  obtain ⟨hrun, hpass, hclosed, hpoll⟩ := hu
  cases h with
  | kept h => exact hwhole.congr h.scheduler h.pollMs (by rw [h.state])
  | enabled h => exact ⟨hrun, hpass, by simp [SpanUnit.enabled, SpanState.isOpen], fun h => if_pos h⟩
  | resumed h => exact hwhole.congr rfl rfl (by obtain h | h := h <;> simp [h, SpanState.isOpen])
  | quiesced h => exact hwhole.congr rfl rfl (by dsimp only; split_ifs <;> simp [h, SpanState.isOpen])
  | settled h => exact hwhole.congr rfl rfl (by simp [h, SpanState.isOpen])
  | pollExpired h =>
    refine ⟨hrun, hpass, fun ho => ?_, fun hp => ?_⟩
    · exact absurd (hclosed ho) (by simp [h])
    · exact absurd (hpoll hp) (by simp [h])
  | pollStarted hs hj hd =>
    obtain ⟨-, -, hms⟩ := u.pollDue_iff.mp hd
    refine ⟨by simpa using hrun, by simp, ?_, ?_⟩
    · simp [hs, SpanState.isOpen]
    · simp [hms]
  | postStarted hs hj hd hp =>
    obtain ⟨p, rest, hposts⟩ := List.exists_cons_of_ne_nil hp
    simp only [SpanUnit.startPost, hposts, SpanUnit.SchedulerSound, enterTurnaround_scheduler, enterTurnaround_state, enterTurnaround_params]
    exact ⟨saturate_le _ _, hpassOver hd, hclosed, hpoll⟩
  | posted => exact ⟨hrun, hpass, hclosed, hpoll⟩
  | @pollInterval n h =>
    simp only [SpanUnit.setPollMs]
    refine ⟨hrun, hpass, fun ho => ?_, fun hn => if_pos hn⟩
    simp only at ho
    simp [ho, hclosed]

theorem SpanUnit.SchedulerSound.moved {attempts : Nat} (hu : u.SchedulerSound) (h : u.Moved attempts v) : v.SchedulerSound := by
  cases h with
  | engine h =>
    obtain ⟨hs, hp, ho⟩ := h.scheduler
    exact hu.congr hs hp ho
  | work h => exact hu.workMoved h
  | deferredEnded => exact hu.congr u.freed_scheduler (by simp) u.freed_isOpen
  | postEnded => exact hu.congr (freed_scheduler _) (by simp) (freed_isOpen _)
  | deferredStarted e high low hs hj hd =>
    have hpassOver := hu.passOverAfter_le hd
    obtain ⟨-, -, hclosed, hpoll⟩ := hu
    simp only [SpanUnit.startDeferred, SpanUnit.SchedulerSound, enterTurnaround_scheduler, enterTurnaround_state, enterTurnaround_params]
    exact ⟨Nat.zero_le _, hpassOver, hclosed, hpoll⟩
  | closed h =>
    obtain ⟨hrun, hpass, -⟩ := hu
    cases h with
    | shut idle ho ht hs =>
      obtain rfl | rfl := hs
      · exact schedulerSound_of_stopped (by simp [SpanUnit.shut, resetScheduler]) (by simp [SpanUnit.shut, resetScheduler]) rfl
      · exact schedulerSound_of_stopped hrun hpass rfl
    | off h => exact schedulerSound_of_stopped (by simp [resetScheduler]) (by simp [resetScheduler]) rfl
  | restarted | reset =>
    exact schedulerSound_of_stopped (by simp [SpanUnit.restarted, resetSpan, resetScheduler])
      (by simp [SpanUnit.restarted, resetSpan, resetScheduler]) rfl

/-! ## Jobs -/

/-- What a job record says of itself, its phase apart: its limit, its attempts, and its operation by its kind (R65, R71, R76). -/
structure Job.RecordSound (j : Job) : Prop where
  limit_pos : 1 ≤ j.limit
  limit_le : j.limit ≤ 15
  begun_le : j.begun ≤ j.limit
  poll : j.kind = .poll ↔ j.operation = .poll
  poll_limit : j.kind = .poll → j.limit = 1
  post : j.kind = .post → j.operation = .write

/-- What the phase of a job says of its attempts, and of the frame that goes out (R65, R71). -/
def Job.PhaseSound (j : Job) : Prop :=
  match j.phase with
  | .turnaround _ => j.begun < j.limit
  | .sending frame => 1 ≤ j.begun ∧ frame = j.commandFrame
  | .window _ => 1 ≤ j.begun
  | .receiving => 1 ≤ j.begun
  | .backoff _ => j.begun < j.limit

theorem SpanUnit.jobSound_iff (u : SpanUnit) : u.JobSound ↔ ∀ j, u.job = some j → j.RecordSound ∧ j.PhaseSound :=
  forall₂_congr fun _ _ =>
    ⟨fun ⟨h1, h2, h3, h4, h5, h6, h7⟩ => ⟨⟨h1, h2, h3, h4, h5, h6⟩, h7⟩, fun ⟨⟨h1, h2, h3, h4, h5, h6⟩, h7⟩ => ⟨h1, h2, h3, h4, h5, h6, h7⟩⟩

theorem SpanUnit.jobSound_of_some {j : Job} (hj : v.job = some j) (hr : j.RecordSound) (hp : j.PhaseSound) : v.JobSound := by
  refine v.jobSound_iff.mpr fun j' hj' => ?_
  obtain rfl := Option.some.inj (hj.symm.trans hj')
  exact ⟨hr, hp⟩

theorem SpanUnit.jobSound_of_none (hj : v.job = none) : v.JobSound := by simp [SpanUnit.JobSound, hj]

theorem SpanUnit.JobSound.congr (hu : u.JobSound) (hj : v.job = u.job) : v.JobSound := by
  simpa only [SpanUnit.JobSound, hj] using hu

theorem Job.PhaseSound.begun_pos {j : Job} (h : j.PhaseSound) (hp : j.phase.AwaitsResult) : 1 ≤ j.begun := by
  unfold Job.PhaseSound at h
  unfold Phase.AwaitsResult at hp
  split at hp
  · next hphase => rwa [hphase] at h
  · next hphase => rwa [hphase] at h
  · exact hp.elim

/-- The turnaround of a job with an attempt left (R64, R71). -/
theorem SpanUnit.jobSound_enterTurnaround (u : SpanUnit) {j : Job} (hj : j.RecordSound) (hlimit : j.begun < j.limit) :
    (u.enterTurnaround j).JobSound := by
  obtain ⟨h1, h2, -, h4, h5, h6⟩ := hj
  unfold SpanUnit.enterTurnaround
  split_ifs
  · exact jobSound_of_some rfl ⟨h1, h2, hlimit, h4, h5, h6⟩ ⟨Nat.le_add_left 1 _, rfl⟩
  · exact jobSound_of_some rfl ⟨h1, h2, hlimit.le, h4, h5, h6⟩ hlimit

theorem SpanUnit.JobSound.engineMoved (hu : u.JobSound) (h : u.EngineMoved v) : v.JobSound := by
  have hjob := u.jobSound_iff.mp hu
  cases h with
  | kept h => exact hu.congr h.job
  | idle => exact hu
  | @attemptBegun j ms hj hp =>
    obtain ⟨⟨h1, h2, -, h4, h5, h6⟩, hphase⟩ := hjob _ hj
    have hlimit : j.begun < j.limit := by simpa only [Job.PhaseSound, hp] using hphase
    exact jobSound_of_some rfl ⟨h1, h2, hlimit, h4, h5, h6⟩ ⟨Nat.le_add_left 1 _, rfl⟩
  | backedOff hj hp =>
    obtain ⟨hr, hphase⟩ := hjob _ hj
    exact u.jobSound_enterTurnaround hr (by simpa only [Job.PhaseSound, hp] using hphase)
  | @commandSent j frame p hj hp hawaits =>
    obtain ⟨⟨h1, h2, h3, h4, h5, h6⟩, hphase⟩ := hjob _ hj
    have hbegun : 1 ≤ j.begun := by
      simp only [Job.PhaseSound, hp] at hphase
      exact hphase.1
    refine jobSound_of_some rfl ⟨h1, h2, h3, h4, h5, h6⟩ ?_
    cases p with
    | window | receiving => exact hbegun
    | turnaround | sending | backoff => exact hawaits.elim
  | responseStarted hj hp =>
    obtain ⟨⟨h1, h2, h3, h4, h5, h6⟩, hphase⟩ := hjob _ hj
    exact jobSound_of_some rfl ⟨h1, h2, h3, h4, h5, h6⟩ (hphase.begun_pos (by rw [hp]; trivial))
  | counted r hj =>
    obtain ⟨⟨h1, h2, h3, h4, h5, h6⟩, hphase⟩ := hjob _ hj
    exact jobSound_of_some rfl ⟨h1, h2, h3, h4, h5, h6⟩ hphase
  | retried r hj hp hlimit =>
    obtain ⟨hr, -⟩ := hjob _ hj
    rw [retry_eq]
    split_ifs
    · obtain ⟨h1, h2, h3, h4, h5, h6⟩ := hr
      exact jobSound_of_some rfl ⟨h1, h2, h3, h4, h5, h6⟩ hlimit
    · exact u.jobSound_enterTurnaround hr hlimit
  | ended => exact jobSound_of_none u.freed_job

/-- A new job under a limit in its range (R71). -/
theorem Job.recordSound_newJob {kind : JobKind} {node : Nat} {operation : SpanOperation} {item : Byte} {length : Nat} {data : List Byte}
    {limit : Nat} (h1 : 1 ≤ limit) (h2 : limit ≤ 15) (h3 : kind = .poll ↔ operation = .poll) (h4 : kind = .poll → limit = 1)
    (h5 : kind = .post → operation = .write) : (newJob kind node operation item length data limit).RecordSound :=
  ⟨h1, h2, Nat.zero_le _, h3, h4, h5⟩

theorem SpanUnit.JobSound.workMoved {attempts : Nat} (h1 : 1 ≤ attempts) (h2 : attempts ≤ 15) (hu : u.JobSound)
    (h : u.WorkMoved attempts v) : v.JobSound := by
  cases h with
  | kept h => exact hu.congr h.job
  | enabled | resumed | quiesced | settled | pollExpired | posted | pollInterval => exact hu
  | pollStarted =>
    exact jobSound_enterTurnaround _ (Job.recordSound_newJob (by simp) (by simp) (by simp) (by simp) (by simp)) Nat.one_pos
  | postStarted hs hj hd hp =>
    obtain ⟨p, rest, hposts⟩ := List.exists_cons_of_ne_nil hp
    simp only [SpanUnit.startPost, hposts]
    exact jobSound_enterTurnaround _ (Job.recordSound_newJob h1 h2 (by simp) (by simp) (by simp)) h1

theorem onSpan_ne_poll (o : Operation) : onSpan o ≠ .poll := by cases o <;> simp [onSpan]

theorem SpanUnit.JobSound.moved {attempts : Nat} (h1 : 1 ≤ attempts) (h2 : attempts ≤ 15) (hu : u.JobSound)
    (h : u.Moved attempts v) : v.JobSound := by
  cases h with
  | engine h => exact hu.engineMoved h
  | work h => exact hu.workMoved h1 h2 h
  | deferredEnded | postEnded => exact jobSound_of_none (freed_job _)
  | deferredStarted =>
    exact jobSound_enterTurnaround _ (Job.recordSound_newJob h1 h2 (by simp [onSpan_ne_poll]) (by simp) (by simp)) h1
  | closed h =>
    cases h with
    | shut => exact jobSound_of_none rfl
    | off => exact hu
  | restarted | reset => exact jobSound_of_none rfl

/-! ## Turnarounds -/

/-- R64: the engine does not wait in TURNAROUND on a line that has been idle for three character times. -/
def SpanUnit.TurnaroundSound (u : SpanUnit) : Prop := ∀ ms, u.phase = some (.turnaround ms) → u.idle3 = false

theorem SpanUnit.TurnaroundSound.congr (hu : u.TurnaroundSound) (hi : v.idle3 = u.idle3) (hj : v.job = u.job) : v.TurnaroundSound := by
  simpa only [SpanUnit.TurnaroundSound, SpanUnit.phase, hi, hj] using hu

theorem SpanUnit.turnaroundSound_of_phase {j : Job} (hj : v.job = some j) (hp : ∀ ms, j.phase ≠ .turnaround ms) : v.TurnaroundSound :=
  fun ms h => absurd (Option.some.inj ((phase_of_job hj).symm.trans h)) (hp ms)

theorem SpanUnit.turnaroundSound_of_none (hj : v.job = none) : v.TurnaroundSound := by
  simp [SpanUnit.TurnaroundSound, SpanUnit.phase, hj]

/-- On an idle line a turnaround is complete as it begins (log 6). -/
theorem SpanUnit.turnaroundSound_enterTurnaround (u : SpanUnit) (j : Job) : (u.enterTurnaround j).TurnaroundSound := by
  unfold SpanUnit.enterTurnaround
  split_ifs with h
  · exact turnaroundSound_of_phase rfl (by simp)
  · exact fun _ _ => by simpa using h

theorem Phase.AwaitsResult.ne_turnaround {p : Phase} (h : p.AwaitsResult) (ms : Nat) : p ≠ .turnaround ms := by
  rintro rfl
  exact h

theorem SpanUnit.TurnaroundSound.engineMoved (hu : u.TurnaroundSound) (h : u.EngineMoved v) : v.TurnaroundSound := by
  cases h with
  | kept h => exact hu.congr h.idle3 h.job
  | @idle b h =>
    intro ms hp
    cases b with
    | true => exact absurd hp (h rfl ms)
    | false => rfl
  | attemptBegun => exact turnaroundSound_of_phase rfl (by simp)
  | backedOff => exact turnaroundSound_enterTurnaround u _
  | commandSent hj hp h => exact turnaroundSound_of_phase rfl h.ne_turnaround
  | responseStarted => exact turnaroundSound_of_phase rfl (by simp)
  | counted r hj => exact fun ms hms => hu ms ((phase_of_job hj).trans hms)
  | retried r =>
    rw [retry_eq]
    split_ifs
    · exact turnaroundSound_of_phase rfl (by simp)
    · exact turnaroundSound_enterTurnaround u _
  | ended => exact turnaroundSound_of_none u.freed_job

theorem SpanUnit.TurnaroundSound.moved {attempts : Nat} (ho : u.OutputsSound) (hu : u.TurnaroundSound) (h : u.Moved attempts v) :
    v.TurnaroundSound := by
  cases h with
  | engine h => exact hu.engineMoved h
  | work h =>
    cases h with
    | kept h => exact hu.congr h.idle3 h.job
    | enabled h => exact turnaroundSound_of_none (ho.no_job_of_closed (by rw [h]; rfl))
    | resumed | quiesced | settled | pollExpired | posted | pollInterval => exact hu
    | pollStarted => exact turnaroundSound_enterTurnaround _ _
    | postStarted hs hj hd hp =>
      obtain ⟨p, rest, hposts⟩ := List.exists_cons_of_ne_nil hp
      simp only [SpanUnit.startPost, hposts]
      exact turnaroundSound_enterTurnaround _ _
  | deferredEnded | postEnded => exact turnaroundSound_of_none (freed_job _)
  | deferredStarted => exact turnaroundSound_enterTurnaround _ _
  | closed h =>
    cases h with
    | shut => exact turnaroundSound_of_none rfl
    | off => exact hu
  | restarted | reset => exact turnaroundSound_of_none rfl

/-! ## Roster, parameters and the count of posts discarded -/

/-- What an invariant of the roster, the parameters and the discard count reads of a Span Unit. -/
structure SpanUnit.SameRoster (u v : SpanUnit) : Prop where
  roster : v.roster = u.roster
  params : v.params = u.params
  discarded : v.postsDiscarded = u.postsDiscarded

theorem SpanUnit.sameRoster_enterTurnaround (u : SpanUnit) (j : Job) : u.SameRoster (u.enterTurnaround j) := by
  unfold SpanUnit.enterTurnaround
  split_ifs <;> exact ⟨rfl, rfl, rfl⟩

theorem SpanUnit.sameRoster_freed (u : SpanUnit) : u.SameRoster u.freed := by
  unfold SpanUnit.freed
  split_ifs <;> exact ⟨rfl, rfl, rfl⟩

theorem SpanUnit.sameRoster_started (u : SpanUnit) (scheduler : Scheduler) (posts : List Post) (pollPosition : Nat) (j : Job) :
    u.SameRoster (SpanUnit.enterTurnaround { u with scheduler := scheduler, posts := posts, pollPosition := pollPosition } j) :=
  ⟨(sameRoster_enterTurnaround _ j).roster, (sameRoster_enterTurnaround _ j).params, (sameRoster_enterTurnaround _ j).discarded⟩

theorem SpanUnit.EngineMoved.kept_or_sameRoster (h : u.EngineMoved v) : u.Kept v ∨ u.SameRoster v := by
  cases h with
  | kept h => exact .inl h
  | idle | attemptBegun | commandSent | responseStarted | counted => exact .inr ⟨rfl, rfl, rfl⟩
  | backedOff => exact .inr (u.sameRoster_enterTurnaround _)
  | retried r =>
    rw [retry_eq]
    split_ifs
    · exact .inr ⟨rfl, rfl, rfl⟩
    · exact .inr (u.sameRoster_enterTurnaround _)
  | ended => exact .inr u.sameRoster_freed

theorem SpanUnit.WorkMoved.kept_or_sameRoster {attempts : Nat} (h : u.WorkMoved attempts v) :
    u.Kept v ∨ u.SameRoster v ∨ ∃ n, n ≤ 1000 ∧ v = u.setPollMs n := by
  cases h with
  | kept h => exact .inl h
  | enabled | resumed | quiesced | settled | pollExpired | posted => exact .inr (.inl ⟨rfl, rfl, rfl⟩)
  | pollStarted => exact .inr (.inl (u.sameRoster_started _ _ _ _))
  | postStarted hs hj hd hp =>
    obtain ⟨p, rest, hposts⟩ := List.exists_cons_of_ne_nil hp
    simp only [SpanUnit.startPost, hposts]
    exact .inr (.inl (u.sameRoster_started _ _ _ _))
  | pollInterval h => exact .inr (.inr ⟨_, h, rfl⟩)

/-- A property of the roster, the parameters and the discard count that the changes of these keep. -/
theorem SpanUnit.Moved.roster_cases {attempts : Nat} (h : u.Moved attempts v) :
    u.Kept v ∨ u.SameRoster v ∨ (∃ n, n ≤ 1000 ∧ v = u.setPollMs n) ∨
      (v.roster = resetRoster u.roster ∧ v.params = u.params ∧ v.postsDiscarded ≤ Config.counterTop) ∨ v = resetSpan := by
  cases h with
  | engine h => exact h.kept_or_sameRoster.imp_right .inl
  | work h => exact h.kept_or_sameRoster.imp_right fun h => h.imp_right .inl
  | deferredEnded => exact .inr (.inl u.sameRoster_freed)
  | @postEnded j p rest =>
    have h := SpanUnit.sameRoster_freed { u with posts := rest }
    exact .inr (.inl ⟨h.roster, h.params, h.discarded⟩)
  | deferredStarted => exact .inr (.inl (u.sameRoster_started _ _ _ _))
  | closed h =>
    cases h with
    | shut => exact .inr (.inr (.inr (.inl ⟨rfl, rfl, Nat.min_le_left _ _⟩)))
    | off => exact .inr (.inl ⟨rfl, rfl, rfl⟩)
  | restarted => exact .inr (.inr (.inr (.inl ⟨rfl, rfl, Nat.zero_le _⟩)))
  | reset => exact .inr (.inr (.inr (.inr rfl)))

theorem SpanUnit.RosterSound.moved {attempts : Nat} (hu : u.RosterSound) (h : u.Moved attempts v) : v.RosterSound := by
  obtain h | h | ⟨n, -, rfl⟩ | ⟨hr, hp, -⟩ | rfl := h.roster_cases
  · exact h.roster hu
  · simpa only [SpanUnit.RosterSound, h.roster, h.params] using hu
  · exact hu
  · exact hu.reset hr hp
  · simp [SpanUnit.RosterSound, resetSpan, resetSpanParams]

theorem SpanParams.inRange_reset : resetSpanParams.InRange := by simp [SpanParams.InRange, resetSpanParams]

theorem SpanUnit.Moved.params_inRange {attempts : Nat} (h : u.Moved attempts v) (hu : u.params.InRange) : v.params.InRange := by
  obtain h | h | ⟨n, hn, rfl⟩ | ⟨-, hp, -⟩ | rfl := h.roster_cases
  · exact h.params hu
  · exact h.params ▸ hu
  · obtain ⟨h1, h2, h3, h4, h5, h6, h7, -, h⟩ := hu
    exact ⟨h1, h2, h3, h4, h5, h6, h7, hn, h⟩
  · exact hp ▸ hu
  · exact SpanParams.inRange_reset

theorem SpanUnit.Moved.postsDiscarded_le {attempts : Nat} (h : u.Moved attempts v) (hu : u.postsDiscarded ≤ Config.counterTop) :
    v.postsDiscarded ≤ Config.counterTop := by
  obtain h | h | ⟨n, hn, rfl⟩ | ⟨-, -, h⟩ | rfl := h.roster_cases
  · exact h.discarded hu
  · exact h.discarded ▸ hu
  · exact hu
  · exact h
  · exact Nat.zero_le _

end

/-! ## Every span, every step -/

/-- A property of single Span Units that every move keeps is kept, of every span, by every step. -/
theorem State.Reaches.keeps_spans {G : State → Prop} {I : SpanUnit → Prop}
    (hG : ∀ s t : State, s.EngineMoved t ∨ s.WorkMoved t → G s → G t)
    (hI : ∀ (s : State) (sp : Fin 4) (v : SpanUnit), G s → (s.span sp).Moved s.params.attempts v → I (s.span sp) → I v)
    {s t : State} (h : s.Reaches t) (hg : G s) (hs : ∀ sp, I (s.span sp)) : G t ∧ ∀ sp, I (t.span sp) := by
  refine h.keeps (P := fun s => G s ∧ ∀ sp, I (s.span sp)) ?_ ?_ ⟨hg, hs⟩
  · rintro a b hab ⟨hg, ha⟩
    refine ⟨hG a b (.inl hab) hg, fun sp => ?_⟩
    obtain heq | hm := hab.span sp
    · exact heq ▸ ha sp
    · exact hI a sp _ hg hm (ha sp)
  · rintro a b hab ⟨hg, ha⟩
    refine ⟨hG a b (.inr hab) hg, fun sp => ?_⟩
    obtain heq | hm := hab.span sp
    · exact heq ▸ ha sp
    · exact hI a sp _ hg hm (ha sp)

theorem State.EngineMoved.params {s t : State} (h : s.EngineMoved t) : t.params = s.params := by
  cases h with
  | same h => exact h.params
  | unit | deferredEnded | postEnded => rfl

theorem paramsInRange_congr {s t : State} (hs : ParamsInRange s) (hp : t.params = s.params)
    (hspans : ∀ sp, (s.span sp).params.InRange → (t.span sp).params.InRange) : ParamsInRange t := by
  obtain ⟨h1, h2, h3, h4, h5, h6, h7, h⟩ := hs
  rw [ParamsInRange, hp]
  exact ⟨h1, h2, h3, h4, h5, h6, h7, fun sp => hspans sp (h sp)⟩

/-- Every move keeps every parameter in its range (R146). -/
theorem ParamsInRange.moved {s t : State} (h : s.EngineMoved t ∨ s.WorkMoved t) (hs : ParamsInRange s) : ParamsInRange t := by
  have hspans (sp : Fin 4) (hr : (s.span sp).params.InRange) : (t.span sp).params.InRange := by
    obtain heq | hm : t.span sp = s.span sp ∨ (s.span sp).Moved s.params.attempts (t.span sp) :=
      h.elim (fun h => h.span sp) fun h => h.span sp
    · exact heq ▸ hr
    · exact hm.params_inRange hr
  obtain h | h := h
  · exact paramsInRange_congr hs h.params hspans
  · cases h with
    | same h => exact paramsInRange_congr hs h.params hspans
    | params h => exact h hs
    | reset he hreset =>
      obtain ⟨-, hp⟩ | ⟨-, hp⟩ := hreset
      · exact paramsInRange_congr hs hp hspans
      · obtain ⟨-, -, -, -, -, -, -, hparams⟩ := hs
        rw [ParamsInRange, hp]
        exact ⟨by decide, by decide, by decide, by decide, by decide, by decide, by decide, fun sp => hspans sp (hparams sp)⟩
    | unit | deferredStarted | closed | resumed | delivered | removed | accepted | acceptedClosed | cancelled =>
      exact paramsInRange_congr hs rfl hspans

/-- Settles O11: of all that the moves do to a roster, each keeps it ascending and within the limit. -/
theorem rostersStaySound : Obligations.RostersStaySound := by
  intro s t hs hstep
  obtain ⟨-, ht⟩ := (State.Reaches.of_step hstep).keeps_spans (G := fun _ => True) (I := SpanUnit.RosterSound) (fun _ _ _ h => h)
    (fun s sp v _ hm hu => hu.moved hm) trivial hs
  exact ht

/-- What the spans' invariants say of one Span Unit; the turnaround is asked for only where it was sound before. -/
structure SpanUnit.Sound (turnarounds : Prop) (u : SpanUnit) : Prop where
  outputs : u.OutputsSound
  posts : u.PostsSound
  scheduler : u.SchedulerSound
  job : u.JobSound
  turnaround : turnarounds → u.TurnaroundSound

/-- Settles O10: the parameters stay in their ranges, so every job starts under a limit 1 to 15, and every move keeps a sound Span Unit
sound. -/
theorem spansStaySound : Obligations.SpansStaySound := by
  intro s t hparams houtputs hposts hscheduler hjobs hstep
  obtain ⟨-, ht⟩ := (State.Reaches.of_step hstep).keeps_spans (G := ParamsInRange) (I := SpanUnit.Sound (TurnaroundsSound s))
    (fun _ _ h hs => hs.moved h)
    (fun s sp v hg hm hu => by
      obtain ⟨-, -, -, h1, h2, -⟩ := hg
      exact ⟨hu.outputs.moved hm, hu.posts.moved hm, hu.scheduler.moved hm, hu.job.moved h1 h2 hm,
        fun h => (hu.turnaround h).moved hu.outputs hm⟩)
    hparams (fun sp => ⟨houtputs sp, hposts sp, hscheduler sp, hjobs sp, fun h => h sp⟩)
  exact ⟨fun sp => (ht sp).outputs, fun sp => (ht sp).posts, fun sp => (ht sp).scheduler, fun sp => (ht sp).job,
    fun h sp => (ht sp).turnaround h⟩

end Sys2Proof.Machine

/-! The Transaction Table under the moves: keys stay different and few, barriers stay on QUEUED entries behind the posts of their span, and
closed spans hold no work (R2, R25, R27). -/

namespace Sys2Proof.Machine

set_option Elab.async false -- one proof after another, as in the files under Laws/

/-! ## Keys -/

theorem uniqueKeys_iff (es : List Entry) : UniqueKeys es ↔ (es.map fun e => e.key).Nodup := by
  rw [UniqueKeys, List.Nodup, List.pairwise_map]

/-- What keeps the keys of some of the entries, in their order, keeps a table bounded. -/
theorem TableBounded.of_keys {s t : State} (hs : TableBounded s)
    (h : (t.table.entries.map fun e => e.key).Sublist (s.table.entries.map fun e => e.key)) : TableBounded t := by
  obtain ⟨hlength, hkeys⟩ := hs
  refine ⟨?_, (uniqueKeys_iff _).mpr (((uniqueKeys_iff _).mp hkeys).sublist h)⟩
  have := h.length_le
  simp only [List.length_map] at this
  omega

theorem keys_filterMap {es : List Entry} {f : Entry → Option Entry} (hf : ∀ e e', f e = some e' → e'.key = e.key) :
    ((es.filterMap f).map fun e => e.key).Sublist (es.map fun e => e.key) := by
  induction es with
  | nil => exact .slnil
  | cons e es ih =>
    rw [List.filterMap_cons]
    cases h : f e with
    | none => exact ih.cons _
    | some e' =>
      simp only [List.map_cons, hf e e' h]
      exact ih.cons_cons _

theorem sublist_of_eq {α : Type} {l l' : List α} (h : l = l') : l.Sublist l' := h ▸ .refl _

theorem keys_map {es : List Entry} {f : Entry → Entry} (hf : ∀ e, (f e).key = e.key) :
    (es.map f).map (fun e => e.key) = es.map fun e => e.key := by
  simp [hf]

theorem keys_setState (t : TransactionTable) (k : Key) (st : EntryState) :
    ((t.setState k st).entries.map fun e => e.key).Sublist (t.entries.map fun e => e.key) := by
  have h (es : List Entry) :
      (updateFirst (fun e => e.key == k) (fun e => { e with state := st }) es).map (fun e => e.key) = es.map fun e => e.key := by
    induction es with
    | nil => rfl
    | cons e es ih => simp only [updateFirst]; split_ifs <;> simp [ih]
  exact sublist_of_eq (h t.entries)

/-! ## What the table's operations make of an entry -/

theorem Entry.cleanedUp_eq_some {e e' : Entry} {o : CompletionOutcome} {attempts ms : Nat} (h : e.cleanedUp o attempts ms = some e') :
    ∃ st : EntryState, e' = { e with state := st, barrier := 0 } ∧
      (e.state.record = none ∧ (st = .held (bareRecord o 0) ms ∨ st = .held (bareRecord o attempts) ms) ∨
        e.state.record.isSome = true ∧ st = e.state) := by
  unfold Entry.cleanedUp at h
  split at h
  · next hs => cases h; exact ⟨_, rfl, .inl ⟨by rw [hs]; rfl, .inl rfl⟩⟩
  · next hs => cases h; exact ⟨_, rfl, .inl ⟨by rw [hs]; rfl, .inr rfl⟩⟩
  · cases h
  · next hs => cases h; exact ⟨_, rfl, .inr ⟨by rw [hs]; rfl, rfl⟩⟩
  · next hs => cases h; exact ⟨_, rfl, .inr ⟨by rw [hs]; rfl, rfl⟩⟩

theorem Entry.cancelled_eq_some {e e' : Entry} (h : e.cancelled.1 = some e') : e.isSubject = true ∧ e' = { e with state := .cancelling } := by
  obtain ⟨key, flag, span, node, state, barrier⟩ := e
  cases state <;> simp_all [Entry.cancelled, Entry.isSubject, EntryState.isRunning, EntryState.isCancelling]

theorem mem_cleanup {sp : Fin 4} {o : CompletionOutcome} {attempts ms : Nat} {es : List Entry} {e' : Entry} :
    e' ∈ cleanup sp o attempts ms es ↔
      ∃ e ∈ es, (e.span = sp ∧ e.cleanedUp o attempts ms = some e') ∨ (e.span ≠ sp ∧ e' = e) := by
  simp only [cleanup, List.mem_filterMap, beq_iff_eq]
  refine exists_congr fun e => and_congr_right fun _ => ?_
  split_ifs with h <;> simp [h, eq_comm]

theorem mem_completeJob {sp : Fin 4} {r : CompletionRecord} {ms : Nat} {es : List Entry} {e' : Entry} :
    e' ∈ completeJob sp r ms es ↔
      ∃ e ∈ es, (e.span = sp ∧ e.state = .running ∧ e' = { e with state := .held r ms }) ∨
        (¬ (e.span = sp ∧ e.isSubject = true) ∧ e' = e) := by
  simp only [completeJob, List.mem_filterMap, beq_iff_eq]
  refine exists_congr fun e => and_congr_right fun _ => ?_
  by_cases h : e.span = sp
  · cases hs : e.state <;> simp [h, hs, Entry.isSubject, EntryState.isRunning, EntryState.isCancelling] <;> exact eq_comm
  · simp only [h, if_false, Option.some.injEq, false_and, not_false_eq_true, true_and, false_or]
    exact eq_comm

theorem mem_cancel {t : TransactionTable} {p : Entry → Bool} {e' : Entry} (h : e' ∈ (t.cancel p).entries) :
    ∃ e ∈ t.entries, e' = e ∨ e.isSubject = true ∧ e' = { e with state := .cancelling } := by
  obtain ⟨e, he, h⟩ := List.mem_filterMap.mp h
  split_ifs at h with hp
  · exact ⟨e, he, .inr (Entry.cancelled_eq_some h)⟩
  · exact ⟨e, he, .inl (Option.some.inj h).symm⟩

/-- Setting the state of the entry of a key, the keys being different. -/
theorem mem_setState {t : TransactionTable} (hkeys : UniqueKeys t.entries) {e e' : Entry} {st : EntryState} (he : e ∈ t.entries)
    (h : e' ∈ (t.setState e.key st).entries) : e' = { e with state := st } ∨ (e' ∈ t.entries ∧ e'.key ≠ e.key) := by
  rw [setState_entries hkeys] at h
  obtain ⟨x, hx, rfl⟩ := List.mem_map.mp h
  split_ifs with hk
  · have heq : x = e := by
      have h1 := find?_key hkeys hx
      rw [hk] at h1
      exact Option.some.inj (h1.symm.trans (find?_key hkeys he))
    exact .inl (by rw [heq])
  · exact .inr ⟨hx, hk⟩

/-! ## The table stays bounded -/

/-- A new key behind what room leaves (R2, R12, R13). -/
theorem TableBounded.accept {s : State} (hs : TableBounded s) {e : Entry} {t : TransactionTable} {sp : Fin 4} {quota : Nat}
    (hk : s.table.find e.key = none) (hr : s.table.room sp quota = .ok t) : TableBounded (s.setTable (t.append e)) := by
  obtain ⟨hlength, hkeys⟩ := hs
  obtain ⟨hsub, hroom⟩ := room_spec hr hlength
  refine ⟨?_, ?_⟩
  · simp [TransactionTable.append]
    omega
  · simp only [State.setTable_table, TransactionTable.append, List.pairwise_append]
    refine ⟨hkeys.sublist hsub, by simp, fun x hx y hy => ?_⟩
    obtain rfl := List.mem_singleton.mp hy
    exact find_eq_none.mp hk x (hsub.subset hx)

theorem TableBounded.engineMoved {s t : State} (h : s.EngineMoved t) (hs : TableBounded s) : TableBounded t := by
  refine hs.of_keys ?_
  cases h with
  | same h => rw [h.entries]
  | unit => exact .refl _
  | deferredEnded =>
    refine keys_filterMap fun e e' h => ?_
    split_ifs at h
    · split at h
      · cases h; rfl
      · cases h
      · cases h; rfl
    · cases h; rfl
  | postEnded =>
    refine sublist_of_eq (keys_map fun e => ?_)
    split_ifs <;> rfl

theorem TableBounded.workMoved {s t : State} (h : s.WorkMoved t) (hs : TableBounded s) : TableBounded t := by
  cases h with
  | same h => exact hs.of_keys (by rw [h.entries])
  | unit | params => exact hs.of_keys (.refl _)
  | deferredStarted => exact hs.of_keys (keys_setState _ _ _)
  | closed =>
    refine hs.of_keys (keys_filterMap fun e e' h => ?_)
    split_ifs at h
    · obtain ⟨st, rfl, -⟩ := Entry.cleanedUp_eq_some h
      rfl
    · cases h; rfl
  | reset he => exact ⟨by simp [he], by simp [he]⟩
  | resumed | delivered => exact hs.of_keys (keys_setState _ _ _)
  | removed => exact hs.of_keys ((removeFirst_sublist _ _).map _)
  | accepted hk hr => exact hs.accept hk hr
  | acceptedClosed hk hr => exact hs.accept hk hr
  | cancelled p =>
    refine hs.of_keys (keys_filterMap fun e e' h => ?_)
    split_ifs at h
    · obtain ⟨-, rfl⟩ := Entry.cancelled_eq_some h
      rfl
    · cases h; rfl

/-! ## Barriers and closed spans -/

/-- R25, R27 of one entry, by its span: a nonzero barrier only while QUEUED, at most the posts of the span, and a record on a closed span. -/
structure Entry.PlaceSound (e : Entry) (u : SpanUnit) : Prop where
  queued : e.barrier ≠ 0 → e.state = .queued
  depth : e.barrier ≤ u.posts.length
  closed : u.state.isOpen = false → e.state.record.isSome = true

/-- `PlaceSound` of every entry. -/
def PlacesSound (s : State) : Prop := ∀ e ∈ s.table.entries, e.PlaceSound (s.span e.span)

theorem placesSound_iff {s : State} : PlacesSound s ↔ BarriersSound s ∧ ClosedSpansHoldNoWork s :=
  ⟨fun h => ⟨fun e he => ⟨(h e he).queued, (h e he).depth⟩, fun e he => (h e he).closed⟩,
    fun ⟨hb, hc⟩ e he => ⟨(hb e he).1, (hb e he).2, hc e he⟩⟩

theorem Entry.PlaceSound.mono {e : Entry} {u v : SpanUnit} (h : e.PlaceSound u) (hp : u.posts.length ≤ v.posts.length)
    (ho : u.state.isOpen = true → v.state.isOpen = true) : e.PlaceSound v where
  queued := h.queued
  depth := h.depth.trans hp
  closed hv := h.closed (Bool.eq_false_iff.mpr fun hu => by rw [ho hu] at hv; cases hv)

/-- An entry with no barrier that has its record, or whose span is open. -/
theorem Entry.placeSound_of_zero {e : Entry} {u : SpanUnit} (hb : e.barrier = 0)
    (h : u.state.isOpen = true ∨ e.state.record.isSome = true) : e.PlaceSound u where
  queued h := absurd hb h
  depth := by omega
  closed ho := h.resolve_left (by simp [ho])

/-- R25: an entry that is not QUEUED has barrier 0. -/
theorem Entry.PlaceSound.barrier_eq_zero {e : Entry} {u : SpanUnit} (h : e.PlaceSound u) (hs : e.state ≠ .queued) : e.barrier = 0 := by
  by_contra hb
  exact hs (h.queued hb)

/-- A change of state away from QUEUED. -/
theorem Entry.PlaceSound.setState {e : Entry} {u : SpanUnit} (h : e.PlaceSound u) (hs : e.state ≠ .queued) {st : EntryState}
    (hr : st.record.isSome = true ∨ e.state.record = none) : Entry.PlaceSound { e with state := st } u := by
  refine Entry.placeSound_of_zero (h.barrier_eq_zero hs) ?_
  obtain hr | hr := hr
  · exact .inr hr
  · cases ho : u.state.isOpen with
    | true => exact .inl rfl
    | false =>
      have := h.closed ho
      simp [hr] at this

/-- Spans whose posts grow and that stay open keep every place sound. -/
theorem PlacesSound.mono {s t : State} (hs : PlacesSound s) (he : ∀ e ∈ t.table.entries, e ∈ s.table.entries)
    (hp : ∀ sp, (s.span sp).posts.length ≤ (t.span sp).posts.length)
    (ho : ∀ sp, (s.span sp).state.isOpen = true → (t.span sp).state.isOpen = true) : PlacesSound t :=
  fun e hmem => (hs e (he e hmem)).mono (hp _) (ho _)

theorem SpanUnit.EngineMoved.posts {u v : SpanUnit} (h : u.EngineMoved v) : v.posts = u.posts := by
  cases h with
  | kept h => exact h.posts
  | idle | attemptBegun | commandSent | responseStarted | counted => rfl
  | backedOff => simp
  | retried r => rw [retry_eq]; split_ifs <;> simp
  | ended => exact u.freed_posts

/-- Work moves of one span remove no post and close no span. -/
theorem SpanUnit.WorkMoved.place {attempts : Nat} {u v : SpanUnit} (h : u.WorkMoved attempts v) :
    u.posts.length ≤ v.posts.length ∧ (u.state.isOpen = true → v.state.isOpen = true) := by
  cases h with
  | kept h => exact ⟨by rw [h.posts], by rw [h.state]; exact id⟩
  | enabled | resumed | settled => exact ⟨le_rfl, fun _ => rfl⟩
  | quiesced => exact ⟨le_rfl, fun _ => by dsimp only; split_ifs <;> rfl⟩
  | pollExpired | pollInterval => exact ⟨le_rfl, id⟩
  | pollStarted => simp
  | postStarted hs hj hd hp =>
    obtain ⟨p, rest, hposts⟩ := List.exists_cons_of_ne_nil hp
    simp [SpanUnit.startPost, hposts]
  | posted => simp

theorem State.setSpan_span_posts_le {s : State} {sp : Fin 4} {v : SpanUnit} (h : (s.span sp).posts.length ≤ v.posts.length) (q : Fin 4) :
    (s.span q).posts.length ≤ ((s.setSpan sp v).span q).posts.length := by
  rw [State.setSpan_span]
  split_ifs with hq
  · rwa [hq]
  · exact le_rfl

theorem State.setSpan_span_isOpen {s : State} {sp : Fin 4} {v : SpanUnit}
    (h : (s.span sp).state.isOpen = true → v.state.isOpen = true) (q : Fin 4) (ho : (s.span q).state.isOpen = true) :
    ((s.setSpan sp v).span q).state.isOpen = true := by
  rw [State.setSpan_span]
  split_ifs with hq
  · exact h (hq ▸ ho)
  · exact ho

/-- The same places, with the Span Unit of one span replaced. -/
theorem PlacesSound.setSpan {s : State} (hs : PlacesSound s) {sp : Fin 4} {v : SpanUnit}
    (hp : (s.span sp).posts.length ≤ v.posts.length) (ho : (s.span sp).state.isOpen = true → v.state.isOpen = true) :
    PlacesSound (s.setSpan sp v) :=
  hs.mono (fun _ h => h) (State.setSpan_span_posts_le hp) (State.setSpan_span_isOpen ho)

/-- The places of other entries, on the same spans. -/
theorem PlacesSound.setTable {s : State} {t : TransactionTable} (h : ∀ e ∈ t.entries, e.PlaceSound (s.span e.span)) :
    PlacesSound (s.setTable t) := h

theorem PlacesSound.engineMoved {s t : State} (h : s.EngineMoved t) (hs : PlacesSound s) : PlacesSound t := by
  cases h with
  | same h =>
    have hspan (sp : Fin 4) : t.span sp = s.span sp := congrArg (fun v : Vector SpanUnit 4 => v[sp]) h.spans
    exact hs.mono (by rw [h.entries]; exact fun _ h => h) (fun sp => by rw [hspan]) (fun sp => by rw [hspan]; exact id)
  | unit sp h =>
    obtain ⟨-, -, ho⟩ := h.scheduler
    exact hs.setSpan (by rw [h.posts]) (by rw [ho]; exact id)
  | deferredEnded sp r =>
    refine PlacesSound.setSpan (s := s.deferredEnded sp _) ?_ (by simp [SpanUnit.freed_posts]) (by simp [SpanUnit.freed_isOpen])
    intro e' he'
    obtain ⟨e, he, ⟨-, hrun, rfl⟩ | ⟨-, rfl⟩⟩ := mem_completeJob.mp he'
    · exact (hs e he).setState (by simp [hrun]) (.inl rfl)
    · exact hs e' he
  | @postEnded sp j p rest hj hp hk hposts =>
    intro e' he'
    obtain ⟨e, he, rfl⟩ := List.mem_map.mp he'
    have hplace := hs e he
    split_ifs with hsp
    · simp only [beq_iff_eq] at hsp
      subst hsp
      simp only [State.setSpan_span_self]
      refine ⟨fun hb => hplace.queued fun h => by simp [h] at hb, ?_, fun ho => hplace.closed ?_⟩
      · have := hplace.depth
        simp only [hposts, List.length_cons] at this
        simp only [SpanUnit.freed_posts]
        omega
      · rwa [SpanUnit.freed_isOpen] at ho
    · simp only [beq_iff_eq] at hsp
      rwa [State.setSpan_span_ne _ _ hsp]

theorem PlacesSound.cleanup {s : State} (hs : PlacesSound s) (sp : Fin 4) (v : SpanUnit) (o : CompletionOutcome) (begun : Nat) :
    PlacesSound ((s.setSpan sp v).cleanupClaim sp o begun) := by
  intro e' he'
  obtain ⟨e, he, ⟨hsp, hclean⟩ | ⟨hsp, rfl⟩⟩ := mem_cleanup.mp he'
  · obtain ⟨st, rfl, hst⟩ := Entry.cleanedUp_eq_some hclean
    refine Entry.placeSound_of_zero rfl (.inr ?_)
    obtain ⟨-, rfl | rfl⟩ | ⟨hr, rfl⟩ := hst
    · rfl
    · rfl
    · exact hr
  · rw [State.cleanupClaim_span, State.setSpan_span_ne _ _ hsp]
    exact hs e' he

theorem PlacesSound.workMoved {s t : State} (h : s.WorkMoved t) (hb : TableBounded s) (hs : PlacesSound s) : PlacesSound t := by
  obtain ⟨hlength, hkeys⟩ := hb
  cases h with
  | same h =>
    have hspan (sp : Fin 4) : t.span sp = s.span sp := congrArg (fun v : Vector SpanUnit 4 => v[sp]) h.spans
    exact hs.mono (by rw [h.entries]; exact fun _ h => h) (fun sp => by rw [hspan]) (fun sp => by rw [hspan]; exact id)
  | unit sp h => exact hs.setSpan h.place.1 h.place.2
  | @deferredStarted sp e high low hact hj hd he hel =>
    refine PlacesSound.setSpan (s := s.setTable _) (PlacesSound.setTable fun e' he' => ?_) (by simp [SpanUnit.startDeferred])
      (by simp [SpanUnit.startDeferred])
    obtain rfl | ⟨he', -⟩ := mem_setState hkeys he he'
    · simp only [Entry.eligible, Bool.and_eq_true, beq_iff_eq] at hel
      obtain ⟨⟨-, hbarrier⟩, rfl⟩ := hel
      exact Entry.placeSound_of_zero hbarrier (.inl (by rw [hact]; rfl))
    · exact hs e' he'
  | closed sp h => exact hs.cleanup sp _ _ _
  | reset he => simp [PlacesSound, he]
  | params => exact hs
  | resumed he hst =>
    refine PlacesSound.setTable fun e' he' => ?_
    obtain ⟨he, -⟩ := find_eq_some he
    obtain rfl | ⟨he', -⟩ := mem_setState hkeys he he'
    · exact (hs _ he).setState (by simp [hst]) (.inr (by rw [hst]; rfl))
    · exact hs e' he'
  | delivered he hst =>
    refine PlacesSound.setTable fun e' he' => ?_
    obtain ⟨he, -⟩ := find_eq_some he
    obtain rfl | ⟨he', -⟩ := mem_setState hkeys he he'
    · exact (hs _ he).setState (by simp [hst]) (.inl rfl)
    · exact hs e' he'
  | removed => exact PlacesSound.setTable fun e' he' => hs e' ((removeFirst_sublist _ _).subset he')
  | accepted hk hr ho =>
    refine PlacesSound.setTable fun e' he' => ?_
    obtain he' | he' := List.mem_append.mp he'
    · exact hs e' ((room_spec hr hlength).1.subset he')
    · obtain rfl := List.mem_singleton.mp he'
      exact ⟨fun _ => rfl, le_rfl, fun h => by simp [newEntry, ho] at h⟩
  | acceptedClosed hk hr =>
    refine PlacesSound.setTable fun e' he' => ?_
    obtain he' | he' := List.mem_append.mp he'
    · exact hs e' ((room_spec hr hlength).1.subset he')
    · obtain rfl := List.mem_singleton.mp he'
      exact Entry.placeSound_of_zero rfl (.inr rfl)
  | cancelled p =>
    refine PlacesSound.setTable fun e' he' => ?_
    obtain ⟨e, he, rfl | ⟨hsub, rfl⟩⟩ := mem_cancel he'
    · exact hs e' he
    · refine (hs e he).setState (fun h => ?_) (.inr ?_)
      · simp [Entry.isSubject, h, EntryState.isRunning, EntryState.isCancelling] at hsub
      · cases hst : e.state <;> simp_all [Entry.isSubject, EntryState.isRunning, EntryState.isCancelling, EntryState.record]

/-- Settles O7: keys, barriers and closed spans by what each move makes of an entry and of its span. -/
theorem tableStaysSound : Obligations.TableStaysSound := by
  intro s t hbounded hbarriers hclosed hstep
  obtain ⟨hb, hp⟩ := (State.Reaches.of_step hstep).keeps (P := fun s => TableBounded s ∧ PlacesSound s)
    (fun s t h hs => ⟨hs.1.engineMoved h, hs.2.engineMoved h⟩) (fun s t h hs => ⟨hs.1.workMoved h, hs.2.workMoved h hs.1⟩)
    ⟨hbounded, placesSound_iff.mpr ⟨hbarriers, hclosed⟩⟩
  exact ⟨hb, placesSound_iff.mp hp⟩

end Sys2Proof.Machine

/-! The subject of a deferred job under the moves: one entry RUNNING or CANCELLING on a span whose job is deferred, none elsewhere (R57). -/

namespace Sys2Proof.Machine

set_option Elab.async false -- one proof after another, as in the files under Laws/

/-! ## The deferred job of a span -/

/-- The fields that a job takes from what it works on; its attempts apart (Table 4-5). -/
def Job.fields (j : Job) : Job := { j with limit := 0, begun := 0, lastResult := none, phase := .receiving }

/-- The fields of the deferred job of a span, if its job is one. -/
def SpanUnit.subjectJob (u : SpanUnit) : Option Job := (u.job.filter fun j => j.kind == .deferred).map Job.fields

section
variable {u v : SpanUnit}

theorem SpanUnit.subjectJob_of_some {j : Job} (hj : u.job = some j) :
    u.subjectJob = if j.kind = .deferred then some j.fields else none := by
  simp only [SpanUnit.subjectJob, hj, Option.filter_some, beq_iff_eq]
  split_ifs <;> rfl

theorem SpanUnit.subjectJob_of_none (hj : u.job = none) : u.subjectJob = none := by simp [SpanUnit.subjectJob, hj]

theorem SpanUnit.subjectJob_congr (h : v.job = u.job) : v.subjectJob = u.subjectJob := by rw [SpanUnit.subjectJob, h]; rfl

/-- Attempts do not change the deferred job. -/
theorem SpanUnit.subjectJob_of_fields {j j' : Job} (hj : u.job = some j) (hj' : v.job = some j') (h : j'.fields = j.fields) :
    v.subjectJob = u.subjectJob := by
  have hkind : j'.fields.kind = j.fields.kind := congrArg Job.kind h
  rw [subjectJob_of_some hj, subjectJob_of_some hj', h, show j'.kind = j.kind from hkind]

theorem SpanUnit.subjectJob_enterTurnaround (u : SpanUnit) (j : Job) :
    (u.enterTurnaround j).subjectJob = if j.kind = .deferred then some j.fields else none := by
  obtain ⟨begun, phase, h⟩ := u.enterTurnaround_job j
  exact (subjectJob_of_some h).trans rfl

theorem SpanUnit.EngineMoved.subjectJob (h : u.EngineMoved v) : v.subjectJob = u.subjectJob := by
  cases h with
  | kept h => exact subjectJob_congr h.job
  | idle => rfl
  | attemptBegun hj | commandSent hj | responseStarted hj | counted r hj => exact subjectJob_of_fields hj rfl rfl
  | backedOff hj => rw [subjectJob_enterTurnaround, subjectJob_of_some hj]
  | retried r hj =>
    rw [retry_eq]
    split_ifs
    · exact subjectJob_of_fields hj rfl rfl
    · rw [subjectJob_enterTurnaround, subjectJob_of_some hj]
  | ended hj hp hk =>
    rw [subjectJob_of_none u.freed_job, subjectJob_of_some hj, if_neg]
    obtain hk | ⟨hk, -⟩ := hk <;> simp [hk]

theorem SpanUnit.WorkMoved.subjectJob {attempts : Nat} (h : u.WorkMoved attempts v) : v.subjectJob = u.subjectJob := by
  cases h with
  | kept h => exact subjectJob_congr h.job
  | enabled | resumed | quiesced | settled | pollExpired | posted | pollInterval => exact subjectJob_congr rfl
  | pollStarted hs hj => rw [SpanUnit.startPoll, subjectJob_enterTurnaround, subjectJob_of_none hj]; rfl
  | postStarted hs hj hd hp =>
    obtain ⟨p, rest, hposts⟩ := List.exists_cons_of_ne_nil hp
    simp only [SpanUnit.startPost, hposts]
    rw [subjectJob_enterTurnaround, subjectJob_of_none hj]
    rfl

theorem SpanUnit.Closed.subjectJob {begun : Nat} (ho : u.OutputsSound) (h : u.Closed v begun) : v.subjectJob = none := by
  cases h with
  | shut => exact subjectJob_of_none rfl
  | off h => exact subjectJob_of_none (ho.no_job_of_closed (by rw [h]; rfl))

end

/-! ## Counting subjects -/

/-- How many entries of a span are subjects of a deferred job. -/
def subjects (es : List Entry) (sp : Fin 4) : Nat := es.countP fun e => e.span == sp && e.isSubject

/-- R57, by the fields of the deferred jobs. -/
theorem subjectsSound_iff {s : State} :
    SubjectsSound s ↔ ∀ sp, subjects s.table.entries sp = if (s.span sp).subjectJob.isSome then 1 else 0 := by
  refine forall_congr' fun sp => ?_
  rw [subjects]
  cases hj : (s.span sp).job with
  | none => simp [SpanUnit.subjectJob_of_none hj]
  | some j =>
    rw [SpanUnit.subjectJob_of_some hj]
    by_cases hk : j.kind = .deferred <;> simp [hk]

theorem SubjectsSound.congr {s t : State} (hs : SubjectsSound s) (he : ∀ sp, subjects t.table.entries sp = subjects s.table.entries sp)
    (hj : ∀ sp, (t.span sp).subjectJob = (s.span sp).subjectJob) : SubjectsSound t := by
  rw [subjectsSound_iff] at hs ⊢
  intro sp
  rw [he, hj]
  exact hs sp

/-- The other spans keep their subjects and their jobs, and one span has its count right. -/
theorem SubjectsSound.of_span {s t : State} (hs : SubjectsSound s) (sp : Fin 4)
    (hsp : subjects t.table.entries sp = if (t.span sp).subjectJob.isSome then 1 else 0)
    (hne : ∀ q, q ≠ sp → subjects t.table.entries q = subjects s.table.entries q ∧ t.span q = s.span q) : SubjectsSound t := by
  rw [subjectsSound_iff] at hs ⊢
  intro q
  by_cases hq : q = sp
  · exact hq ▸ hsp
  · obtain ⟨he, hspan⟩ := hne q hq
    rw [he, hspan]
    exact hs q

theorem subjects_nil (sp : Fin 4) : subjects [] sp = 0 := rfl

/-- A change entry by entry that keeps what is a subject keeps the count. -/
theorem subjects_filterMap {es : List Entry} {f : Entry → Option Entry} {sp : Fin 4}
    (h : ∀ e, ((f e).any fun e' => e'.span == sp && e'.isSubject) = (e.span == sp && e.isSubject)) :
    subjects (es.filterMap f) sp = subjects es sp := by
  rw [subjects, subjects, List.countP_filterMap]
  exact List.countP_congr fun e _ => by rw [← h e]; cases f e <;> simp

theorem subjects_filterMap_eq_zero {es : List Entry} {f : Entry → Option Entry} {sp : Fin 4}
    (h : ∀ e e', f e = some e' → e'.span = sp → e'.isSubject = false) : subjects (es.filterMap f) sp = 0 := by
  rw [subjects, List.countP_eq_zero]
  intro e' he'
  obtain ⟨e, -, hf⟩ := List.mem_filterMap.mp he'
  by_cases hsp : e'.span = sp
  · simp [h e e' hf hsp]
  · simp [hsp]

theorem subjects_append (es es' : List Entry) (sp : Fin 4) : subjects (es ++ es') sp = subjects es sp + subjects es' sp :=
  List.countP_append

theorem subjects_cons (e : Entry) (es : List Entry) (sp : Fin 4) :
    subjects (e :: es) sp = subjects es sp + if e.span = sp ∧ e.isSubject = true then 1 else 0 := by
  simp [subjects, List.countP_cons]

theorem Entry.not_isSubject_of_record {e : Entry} (h : e.state.record.isSome = true) : e.isSubject = false := by
  cases hs : e.state <;> simp_all [Entry.isSubject, EntryState.record, EntryState.isRunning, EntryState.isCancelling]

/-! ### One entry changed or removed -/

/-- With different keys, changing the entry of a key changes that entry alone. -/
theorem setState_split {t : TransactionTable} (hkeys : UniqueKeys t.entries) {before after : List Entry} {e : Entry}
    (h : t.entries = before ++ e :: after) (st : EntryState) :
    (t.setState e.key st).entries = before ++ { e with state := st } :: after := by
  have hbefore : ∀ x ∈ before, x.key ≠ e.key := fun x hx => (List.pairwise_append.mp (h ▸ hkeys)).2.2 x hx e (by simp)
  have hfirst (es : List Entry) (hes : ∀ x ∈ es, x.key ≠ e.key) :
      updateFirst (fun x => x.key == e.key) (fun x => { x with state := st }) (es ++ e :: after) =
        es ++ { e with state := st } :: after := by
    induction es with
    | nil => simp [updateFirst]
    | cons x es ih =>
      have hx : x.key ≠ e.key := hes x (by simp)
      have hrest := ih fun y hy => hes y (by simp [hy])
      simp [updateFirst, hx, hrest]
  simp only [TransactionTable.setState, h]
  exact hfirst before hbefore

theorem free_split {t : TransactionTable} (hkeys : UniqueKeys t.entries) {before after : List Entry} {e : Entry}
    (h : t.entries = before ++ e :: after) : (t.free e.key).entries = before ++ after := by
  have hsplit := List.pairwise_append.mp (h ▸ hkeys)
  have hbefore : ∀ x ∈ before, x.key ≠ e.key := fun x hx => hsplit.2.2 x hx e (by simp)
  have hafter : ∀ x ∈ after, x.key ≠ e.key := fun x hx hk => (List.pairwise_cons.mp hsplit.2.1).1 x hx hk.symm
  rw [free_entries hkeys, h]
  simp only [List.filter_append, List.filter_cons]
  rw [List.filter_eq_self.mpr (by simpa using hbefore), List.filter_eq_self.mpr (by simpa using hafter)]
  simp

theorem subjects_setState {t : TransactionTable} (hkeys : UniqueKeys t.entries) {e : Entry} (he : e ∈ t.entries) (st : EntryState)
    (sp : Fin 4) :
    subjects (t.setState e.key st).entries sp + (if e.span = sp ∧ e.isSubject = true then 1 else 0) =
      subjects t.entries sp + if e.span = sp ∧ Entry.isSubject { e with state := st } = true then 1 else 0 := by
  obtain ⟨before, after, h⟩ := List.append_of_mem he
  rw [setState_split hkeys h, h]
  simp only [subjects_append, subjects_cons]
  omega

theorem subjects_free {t : TransactionTable} (hkeys : UniqueKeys t.entries) {e : Entry} (he : e ∈ t.entries) (hs : e.isSubject = false)
    (sp : Fin 4) : subjects (t.free e.key).entries sp = subjects t.entries sp := by
  obtain ⟨before, after, h⟩ := List.append_of_mem he
  rw [free_split hkeys h, h]
  simp [subjects_append, subjects_cons, hs]

theorem subjects_reclaim {t : TransactionTable} (hkeys : UniqueKeys t.entries) {p : Entry → Bool} {e : Entry} (hv : t.victim p = some e)
    (sp : Fin 4) : subjects (t.reclaim e).entries sp = subjects t.entries sp := by
  obtain ⟨he, -, hstate⟩ := victim_eq_some hv
  refine subjects_free hkeys he ?_ sp
  obtain h | ⟨h, -⟩ := hstate
  · exact Entry.isSubject_of_isDelivered h
  · exact Entry.isSubject_of_isHeld h

/-- Room is made by reclaims, which take no subject (R12, R13). -/
theorem subjects_room {t t' : TransactionTable} (hkeys : UniqueKeys t.entries) {sp : Fin 4} {quota : Nat} (h : t.room sp quota = .ok t')
    (q : Fin 4) : subjects t'.entries q = subjects t.entries q := by
  have hquota {t₁ : TransactionTable} (h : t.quotaStep sp quota = some t₁) : subjects t₁.entries q = subjects t.entries q := by
    unfold TransactionTable.quotaStep at h
    split_ifs at h
    · cases h; rfl
    · obtain ⟨e, hv, rfl⟩ := Option.map_eq_some_iff.mp h
      exact subjects_reclaim hkeys hv q
  have hcapacity {t₁ t₂ : TransactionTable} (hkeys : UniqueKeys t₁.entries) (h : t₁.capacityStep = some t₂) :
      subjects t₂.entries q = subjects t₁.entries q := by
    unfold TransactionTable.capacityStep at h
    split_ifs at h
    · cases h; rfl
    · obtain ⟨e, hv, rfl⟩ := Option.map_eq_some_iff.mp h
      exact subjects_reclaim hkeys hv q
  unfold TransactionTable.room at h
  split at h
  · cases h
  · next t₁ h₁ =>
    split at h
    · cases h
    · next t₂ h₂ =>
      cases h
      rw [hcapacity (hkeys.sublist (quotaStep_sublist h₁)) h₂, hquota h₁]

theorem subjects_accept {t t' : TransactionTable} (hkeys : UniqueKeys t.entries) {sp : Fin 4} {quota : Nat} (h : t.room sp quota = .ok t')
    {e : Entry} (he : e.isSubject = false) (q : Fin 4) : subjects (t'.append e).entries q = subjects t.entries q := by
  simp [TransactionTable.append, subjects_append, subjects_cons, subjects_nil, he, subjects_room hkeys h]

/-! ## The subjects stay sound -/

theorem State.SameWork.span {s t : State} (h : s.SameWork t) (sp : Fin 4) : t.span sp = s.span sp :=
  congrArg (fun v : Vector SpanUnit 4 => v[sp]) h.spans

theorem SubjectsSound.setSpan {s : State} (hs : SubjectsSound s) {sp : Fin 4} {v : SpanUnit}
    (h : v.subjectJob = (s.span sp).subjectJob) : SubjectsSound (s.setSpan sp v) := by
  refine hs.congr (fun _ => rfl) fun q => ?_
  rw [State.setSpan_span]
  split_ifs with hq
  · exact hq ▸ h
  · rfl

theorem SubjectsSound.engineMoved {s t : State} (h : s.EngineMoved t) (hs : SubjectsSound s) : SubjectsSound t := by
  cases h with
  | same h => exact hs.congr (fun _ => by rw [h.entries]) fun sp => by rw [h.span]
  | unit sp h => exact hs.setSpan h.subjectJob
  | deferredEnded sp =>
    refine hs.of_span sp ?_ fun q hq => ⟨subjects_filterMap fun e => ?_, State.setSpan_span_ne _ _ hq⟩
    · rw [State.setSpan_span_self, SpanUnit.subjectJob_of_none (SpanUnit.freed_job _)]
      refine subjects_filterMap_eq_zero fun e e' he hsp => ?_
      obtain ⟨e, -, ⟨-, -, rfl⟩ | ⟨h, rfl⟩⟩ := mem_completeJob.mp (List.mem_filterMap.mpr ⟨e, List.mem_singleton_self e, he⟩)
      · rfl
      · simpa [hsp] using h
    · by_cases hsp : e.span = sp
      · have hne : (sp == q) = false := beq_eq_false_iff_ne.mpr (Ne.symm hq)
        cases hst : e.state <;> simp [hsp, hne]
      · simp [hsp]
  | @postEnded sp j p rest hj hp hk hposts =>
    refine hs.congr (fun q => ?_) fun q => ?_
    · simp only [State.setSpan_table, State.setEntries_entries, subjects, postDone, List.countP_map]
      exact List.countP_congr fun e _ => by
        simp only [Function.comp_apply]
        split_ifs <;> simp [Entry.isSubject]
    · rw [State.setSpan_span]
      split_ifs with hq
      · subst hq
        rw [SpanUnit.subjectJob_of_none (SpanUnit.freed_job _), SpanUnit.subjectJob_of_some hj, if_neg (by simp [hk])]
      · rfl

theorem Entry.isSubject_of_eligible {e : Entry} {sp : Fin 4} (h : e.eligible sp = true) : e.span = sp ∧ e.isSubject = false := by
  simp only [Entry.eligible, Bool.and_eq_true, beq_iff_eq] at h
  obtain ⟨⟨hq, -⟩, hsp⟩ := h
  refine ⟨hsp, ?_⟩
  cases hs : e.state <;> simp_all [Entry.isSubject, EntryState.isQueued, EntryState.isRunning, EntryState.isCancelling]

theorem SubjectsSound.workMoved {s t : State} (h : s.WorkMoved t) (hb : TableBounded s) (ho : OutputsSound s) (hs : SubjectsSound s) :
    SubjectsSound t := by
  obtain ⟨-, hkeys⟩ := hb
  cases h with
  | same h => exact hs.congr (fun _ => by rw [h.entries]) fun sp => by rw [h.span]
  | unit sp h => exact hs.setSpan h.subjectJob
  | @deferredStarted sp e high low hact hj hd he hel =>
    obtain ⟨hsp, hsub⟩ := Entry.isSubject_of_eligible hel
    have hcount := subjects_setState hkeys he .running
    have hnone := subjectsSound_iff.mp hs sp
    rw [SpanUnit.subjectJob_of_none hj] at hnone
    refine hs.of_span sp ?_ fun q hq => ⟨?_, State.setSpan_span_ne _ _ hq⟩
    · have := hcount sp
      simp only [hsub, hsp, hnone, Option.isSome_none] at this
      rw [State.setSpan_span_self, SpanUnit.startDeferred, SpanUnit.subjectJob_enterTurnaround]
      simpa [newJob, Entry.isSubject, EntryState.isRunning] using this
    · have := hcount q
      simpa [hsub, hsp, Ne.symm hq] using this
  | @closed sp v begun o h =>
    refine hs.of_span sp ?_ fun q hq => ⟨subjects_filterMap fun e => ?_, State.setSpan_span_ne _ _ hq⟩
    · rw [State.cleanupClaim_span, State.setSpan_span_self, h.subjectJob (ho sp)]
      refine subjects_filterMap_eq_zero fun e e' he hsp => ?_
      split_ifs at he with h
      · obtain ⟨st, rfl, hst⟩ := Entry.cleanedUp_eq_some he
        refine Entry.not_isSubject_of_record ?_
        obtain ⟨-, rfl | rfl⟩ | ⟨hr, rfl⟩ := hst
        · rfl
        · rfl
        · exact hr
      · cases he
        exact absurd (by simpa using hsp) h
    · by_cases hsp : e.span = sp
      · have hne : (sp == q) = false := beq_eq_false_iff_ne.mpr (Ne.symm hq)
        cases hst : e.state <;> simp [Entry.cleanedUp, hst, hsp, hne]
      · simp [hsp]
  | reset he hreset =>
    refine subjectsSound_iff.mpr fun sp => ?_
    have hjob : (t.span sp).job = none := by
      obtain ⟨h, -⟩ | ⟨h, -⟩ := hreset <;> rw [h sp] <;> rfl
    rw [he, SpanUnit.subjectJob_of_none hjob]
    rfl
  | params => exact hs
  | resumed he hst =>
    refine hs.congr (fun q => ?_) fun _ => rfl
    have := subjects_setState hkeys (find_eq_some he).1 .running q
    simpa [Entry.isSubject, hst, EntryState.isRunning, EntryState.isCancelling] using this
  | @delivered e r ms lingerMs he hst =>
    refine hs.congr (fun q => ?_) fun _ => rfl
    have := subjects_setState hkeys (find_eq_some he).1 (.delivered r lingerMs) q
    simpa [Entry.isSubject, hst, EntryState.isRunning, EntryState.isCancelling] using this
  | removed he hsub => exact hs.congr (subjects_free hkeys (find_eq_some he).1 hsub) fun _ => rfl
  | accepted hk hr => exact hs.congr (subjects_accept hkeys hr rfl) fun _ => rfl
  | acceptedClosed hk hr => exact hs.congr (subjects_accept hkeys hr rfl) fun _ => rfl
  | cancelled p =>
    refine hs.congr (fun q => subjects_filterMap fun e => ?_) fun _ => rfl
    cases hp : p e with
    | false => simp
    | true =>
      obtain ⟨key, flag, span, node, state, barrier⟩ := e
      cases state <;> simp [Entry.cancelled, Entry.isSubject, EntryState.isRunning, EntryState.isCancelling]

theorem OutputsSound.engineMoved {s t : State} (h : s.EngineMoved t) (hs : OutputsSound s) : OutputsSound t := fun sp =>
  (h.span sp).elim (fun heq => heq ▸ hs sp) fun hm => (hs sp).moved hm

theorem OutputsSound.workMoved {s t : State} (h : s.WorkMoved t) (hs : OutputsSound s) : OutputsSound t := fun sp =>
  (h.span sp).elim (fun heq => heq ▸ hs sp) fun hm => (hs sp).moved hm

/-- Settles O8: only the start of a deferred job makes a subject, and its end, a fault and OFF leave none. -/
theorem subjectsStaySound : Obligations.SubjectsStaySound := by
  intro s t hbounded houtputs hsubjects hstep
  obtain ⟨-, -, ht⟩ := (State.Reaches.of_step hstep).keeps (P := fun s => TableBounded s ∧ OutputsSound s ∧ SubjectsSound s)
    (fun s t h hs => ⟨hs.1.engineMoved h, hs.2.1.engineMoved h, hs.2.2.engineMoved h⟩)
    (fun s t h hs => ⟨hs.1.workMoved h, hs.2.1.workMoved h, hs.2.2.workMoved h hs.1 hs.2.1⟩) ⟨hbounded, houtputs, hsubjects⟩
  exact ht

end Sys2Proof.Machine

/-! The completion records and the fields of a deferred job under the moves (R3, R65). -/

namespace Sys2Proof.Machine

set_option Elab.async false -- one proof after another, as in the files under Laws/

/-! ## Records -/

/-- The fields that a deferred job takes from its entry (R65, Table 4-5). -/
def Entry.jobFields (e : Entry) : Job :=
  (newJob .deferred e.node (onSpan e.key.operation) e.key.item e.key.length e.key.data 0).fields

/-- R3: the record of an entry is sound. -/
def Entry.Recorded (e : Entry) : Prop := ∀ r, e.state.record = some r → RecordSound e.key r

theorem SpanUnit.subjectJob_eq_some {u : SpanUnit} {f : Job} :
    u.subjectJob = some f ↔ ∃ j, u.job = some j ∧ j.kind = .deferred ∧ j.fields = f := by
  simp [SpanUnit.subjectJob, Option.filter_eq_some_iff, and_assoc]

theorem Entry.fields_eq_jobFields {e : Entry} {j : Job} :
    j.fields = e.jobFields ↔ j.kind = .deferred ∧ j.node = e.node ∧ j.operation = onSpan e.key.operation ∧ j.item = e.key.item ∧
      j.length = e.key.length ∧ j.data = e.key.data := by
  simp [Entry.jobFields, Job.fields, newJob]

/-- R3 and R65 of one entry, by the deferred job of its span. -/
def Entry.RecordsSound (e : Entry) (f : Option Job) : Prop := e.Recorded ∧ (e.isSubject = true → f = some e.jobFields)

theorem recordsSound_iff {s : State} : RecordsSound s ↔ ∀ e ∈ s.table.entries, e.RecordsSound (s.span e.span).subjectJob := by
  refine forall₂_congr fun e _ => and_congr_right fun _ => forall_congr' fun _ => ?_
  rw [SpanUnit.subjectJob_eq_some]
  refine exists_congr fun j => and_congr_right fun _ => ?_
  rw [Entry.fields_eq_jobFields]
  tauto

theorem Entry.recordsSound_of_record {e : Entry} {f : Option Job} {r : CompletionRecord} (hs : e.state.record = some r)
    (hr : RecordSound e.key r) : e.RecordsSound f := by
  refine ⟨fun r' hr' => ?_, fun h => ?_⟩
  · obtain rfl := Option.some.inj (hs.symm.trans hr')
    exact hr
  · rw [Entry.not_isSubject_of_record (by rw [hs]; rfl)] at h
    cases h

theorem Entry.recordsSound_of_queued {e : Entry} {f : Option Job} (hs : e.state = .queued) : e.RecordsSound f := by
  simp [Entry.RecordsSound, Entry.Recorded, Entry.isSubject, hs, EntryState.record, EntryState.isRunning, EntryState.isCancelling]

/-- A subject stays one, with the same job. -/
theorem Entry.RecordsSound.subject {e : Entry} {f : Option Job} {st : EntryState} (he : e.RecordsSound f) (hsub : e.isSubject = true)
    (hst : st.record = none) : Entry.RecordsSound { e with state := st } f := by
  obtain ⟨-, hf⟩ := he
  exact ⟨fun r hr => by simp [hst] at hr, fun _ => hf hsub⟩

theorem recordSound_bareRecord (k : Key) {o : CompletionOutcome} {attempts : Nat}
    (ho : o = .spanReset ∨ o = .lineFault ∨ o = .spanClosed) (ha : attempts ≤ 15) : RecordSound k (bareRecord o attempts) := by
  obtain rfl | rfl | rfl := ho <;> simp [RecordSound, bareRecord, ha]

/-- What a deferred job hands over is a sound record for its entry (R72, Tables 1-4 and 4-7). -/
theorem recordSound_record {j : Job} {e : Entry} {r : AttemptResult} (hj : j.fields = e.jobFields) (hb : j.begun ≤ 15) (hr : r.Fits j) :
    RecordSound e.key (j.record r) := by
  obtain ⟨-, -, hop, -, hlen, -⟩ := Entry.fields_eq_jobFields.mp hj
  have hread : j.operation = .read ↔ e.key.operation = .read := by
    rw [hop]
    cases e.key.operation <;> simp [onSpan]
  cases r with
  | done data =>
    by_cases h : e.key.operation = .read
    · have hdata : data.length = e.key.length := hlen ▸ hr (hread.mpr h)
      simp [RecordSound, Job.record, Job.outcome, hread, h, hb, hdata]
    · simp [RecordSound, Job.record, Job.outcome, hread, h, hb]
  | garbled d =>
    cases d with
    | none => simp [RecordSound, Job.record, Job.outcome, hb]
    | some data =>
      have hdata : data.length = e.key.length := hlen ▸ hr
      by_cases h : e.key.operation = .read <;> simp [RecordSound, Job.record, Job.outcome, hread, h, hb, hdata]
  | refused code =>
    have hcode : code ≠ 0#8 := hr
    simp [RecordSound, Job.record, Job.outcome, hb, hcode]
  | busy | silent | notice | nothing => simp [RecordSound, Job.record, Job.outcome, hb]

/-! ## Jobs under engine moves -/

theorem JobsSound.engineMoved {s t : State} (h : s.EngineMoved t) (hs : JobsSound s) : JobsSound t := by
  have hset {m : State} {sp : Fin 4} {v : SpanUnit} (hm : ∀ q, m.span q = s.span q) (hv : v.JobSound) : JobsSound (m.setSpan sp v) := by
    intro q
    rw [State.setSpan_span]
    split_ifs
    · exact hv
    · exact hm q ▸ hs q
  cases h with
  | same h => exact fun sp => h.span sp ▸ hs sp
  | unit sp h => exact hset (fun _ => rfl) ((hs sp).engineMoved h)
  | deferredEnded | postEnded => exact hset (fun _ => rfl) (SpanUnit.jobSound_of_none (SpanUnit.freed_job _))

/-! ## The attempts that a job has begun, under work moves -/

theorem SpanUnit.attemptsBegun_le_of_some {u : SpanUnit} {j : Job} (hj : u.job = some j) : u.attemptsBegun ≤ j.begun := by
  simp only [SpanUnit.attemptsBegun, hj]
  split_ifs <;> omega

theorem SpanUnit.attemptsBegun_of_none {u : SpanUnit} (hj : u.job = none) : u.attemptsBegun = 0 := by
  simp [SpanUnit.attemptsBegun, hj]

theorem SpanUnit.attemptsBegun_congr {u v : SpanUnit} (h : v.job = u.job) : v.attemptsBegun = u.attemptsBegun := by
  simp [SpanUnit.attemptsBegun, h]

/-- A job that has begun no attempt begins at most one with its turnaround. -/
theorem SpanUnit.attemptsBegun_enterTurnaround_le (u : SpanUnit) {j : Job} (hj : j.begun = 0) : (u.enterTurnaround j).attemptsBegun ≤ 1 := by
  unfold SpanUnit.enterTurnaround
  split_ifs
  · exact (attemptsBegun_le_of_some rfl).trans (by simp [hj])
  · exact (attemptsBegun_le_of_some rfl).trans (by simp [hj])

theorem SpanUnit.WorkMoved.attemptsBegun_le {attempts : Nat} {u v : SpanUnit} (h : u.WorkMoved attempts v) (hu : u.attemptsBegun ≤ 15) :
    v.attemptsBegun ≤ 15 := by
  cases h with
  | kept h => exact (attemptsBegun_congr h.job).trans_le hu
  | enabled | resumed | quiesced | settled | pollExpired | posted | pollInterval => exact hu
  | pollStarted => exact (attemptsBegun_enterTurnaround_le _ rfl).trans (by omega)
  | postStarted hs hj hd hp =>
    obtain ⟨p, rest, hposts⟩ := List.exists_cons_of_ne_nil hp
    simp only [SpanUnit.startPost, hposts]
    exact (attemptsBegun_enterTurnaround_le _ rfl).trans (by omega)

theorem State.WorkMoved.attemptsBegun_le {s t : State} (h : s.WorkMoved t) (hs : ∀ sp, (s.span sp).attemptsBegun ≤ 15) (sp : Fin 4) :
    (t.span sp).attemptsBegun ≤ 15 := by
  have hset {m : State} {q : Fin 4} {v : SpanUnit} (hm : ∀ p, m.span p = s.span p) (hv : v.attemptsBegun ≤ 15) :
      ((m.setSpan q v).span sp).attemptsBegun ≤ 15 := by
    rw [State.setSpan_span]
    split_ifs
    · exact hv
    · exact hm sp ▸ hs sp
  cases h with
  | same h => exact h.span sp ▸ hs sp
  | unit q h => exact hset (fun _ => rfl) (h.attemptsBegun_le (hs q))
  | deferredStarted q => exact hset (fun _ => rfl) ((SpanUnit.attemptsBegun_enterTurnaround_le _ rfl).trans (by omega))
  | closed q h =>
    refine hset (fun _ => rfl) ?_
    cases h with
    | shut => exact (SpanUnit.attemptsBegun_of_none rfl).trans_le (by omega)
    | off => exact hs q
  | reset he hreset =>
    have hjob : (t.span sp).job = none := by
      obtain ⟨h, -⟩ | ⟨h, -⟩ := hreset <;> rw [h sp] <;> rfl
    exact (SpanUnit.attemptsBegun_of_none hjob).trans_le (by omega)
  | params | resumed | delivered | removed | accepted | acceptedClosed | cancelled => exact hs sp

theorem SpanUnit.Closed.begun_le {u v : SpanUnit} {begun : Nat} (h : u.Closed v begun) (hu : u.attemptsBegun ≤ 15) : begun ≤ 15 := by
  cases h with
  | shut => exact hu
  | off => omega

/-! ## Records under the moves -/

theorem RecordsSound.setSpan {s : State} (hs : RecordsSound s) {sp : Fin 4} {v : SpanUnit}
    (h : v.subjectJob = (s.span sp).subjectJob) : RecordsSound (s.setSpan sp v) := by
  rw [recordsSound_iff] at hs ⊢
  intro e he
  rw [State.setSpan_span]
  split_ifs with hsp
  · rw [h, ← hsp]
    exact hs e he
  · exact hs e he

theorem RecordsSound.same {s t : State} (hs : RecordsSound s) (h : s.SameWork t) : RecordsSound t := by
  rw [recordsSound_iff] at hs ⊢
  intro e he
  rw [h.span]
  exact hs e (h.entries ▸ he)

theorem RecordsSound.engineMoved {s t : State} (h : s.EngineMoved t) (hj : JobsSound s) (hs : RecordsSound s) : RecordsSound t := by
  cases h with
  | same h => exact hs.same h
  | unit sp h => exact hs.setSpan h.subjectJob
  | @deferredEnded sp j r hjob hp hk hr =>
    rw [recordsSound_iff] at hs ⊢
    obtain ⟨-, hlimit, hbegun, -⟩ := hj sp j hjob
    intro e' he'
    obtain ⟨e, he, ⟨hsp, hrun, rfl⟩ | ⟨hnot, rfl⟩⟩ := mem_completeJob.mp he'
    · obtain ⟨-, hsubject⟩ := hs e he
      rw [hsp, SpanUnit.subjectJob_of_some hjob, if_pos hk, Option.some.injEq] at hsubject
      have hfields := hsubject (by simp [Entry.isSubject, hrun, EntryState.isRunning])
      exact Entry.recordsSound_of_record (e := { e with state := .held _ _ }) rfl (recordSound_record hfields (by omega) hr)
    · by_cases hsp : e'.span = sp
      · exact ⟨(hs e' he).1, fun h => absurd ⟨hsp, h⟩ hnot⟩
      · rw [State.setSpan_span_ne _ _ hsp]
        exact hs e' he
  | @postEnded sp j p rest hjob hp hk hposts =>
    have hnone : (s.span sp).subjectJob = none := by rw [SpanUnit.subjectJob_of_some hjob, if_neg (by simp [hk])]
    refine RecordsSound.setSpan (s := s.setEntries _) ?_ (by rw [SpanUnit.subjectJob_of_none (SpanUnit.freed_job _)]; exact hnone.symm)
    rw [recordsSound_iff] at hs ⊢
    intro e' he'
    obtain ⟨e, he, rfl⟩ := List.mem_map.mp he'
    have hrecords := hs e he
    split_ifs
    · exact hrecords
    · exact hrecords

theorem RecordsSound.workMoved {s t : State} (h : s.WorkMoved t) (hb : TableBounded s)
    (hbegun : ∀ sp, (s.span sp).attemptsBegun ≤ 15) (hs : RecordsSound s) : RecordsSound t := by
  obtain ⟨hlength, hkeys⟩ := hb
  have hrecords := recordsSound_iff.mp hs
  have hset {k : Key} {e : Entry} {st : EntryState} (he : s.table.find k = some e) (hk : e.key = k)
      (h : Entry.RecordsSound { e with state := st } (s.span e.span).subjectJob) :
      RecordsSound (s.setTable (s.table.setState k st)) := by
    refine recordsSound_iff.mpr fun e' he' => ?_
    obtain rfl | ⟨he', -⟩ := mem_setState hkeys (find_eq_some he).1 (hk ▸ he')
    · exact h
    · exact hrecords e' he'
  have happend {t : TransactionTable} {sp : Fin 4} {quota : Nat} {e : Entry} (hr : s.table.room sp quota = .ok t)
      (h : e.RecordsSound (s.span e.span).subjectJob) : RecordsSound (s.setTable (t.append e)) := by
    refine recordsSound_iff.mpr fun e' he' => ?_
    obtain he' | he' := List.mem_append.mp he'
    · exact hrecords e' ((room_spec hr hlength).1.subset he')
    · exact List.mem_singleton.mp he' ▸ h
  cases h with
  | same h => exact hs.same h
  | unit sp h => exact hs.setSpan h.subjectJob
  | @deferredStarted sp e high low hact hjob hd he hel =>
    obtain ⟨hsp, -⟩ := Entry.isSubject_of_eligible hel
    refine recordsSound_iff.mpr fun e' he' => ?_
    obtain rfl | ⟨he', -⟩ := mem_setState hkeys he he'
    · refine ⟨fun r hr => by simp [EntryState.record] at hr, fun _ => ?_⟩
      rw [hsp, State.setSpan_span_self, SpanUnit.startDeferred, SpanUnit.subjectJob_enterTurnaround]
      rfl
    · by_cases hq : e'.span = sp
      · refine ⟨(hrecords e' he').1, fun h => ?_⟩
        have hsubject := (hrecords e' he').2 h
        rw [hq, SpanUnit.subjectJob_of_none hjob] at hsubject
        cases hsubject
      · rw [State.setSpan_span_ne _ _ hq]
        exact hrecords e' he'
  | @closed sp v begun o hclosed ho =>
    have hle := hclosed.begun_le (hbegun sp)
    refine recordsSound_iff.mpr fun e' he' => ?_
    obtain ⟨e, he, ⟨hsp, hclean⟩ | ⟨hsp, rfl⟩⟩ := mem_cleanup.mp he'
    · obtain ⟨st, rfl, ⟨-, rfl | rfl⟩ | ⟨hr, rfl⟩⟩ := Entry.cleanedUp_eq_some hclean
      · exact Entry.recordsSound_of_record (e := { e with state := .held _ _, barrier := 0 }) rfl
          (recordSound_bareRecord _ (by tauto) (by omega))
      · exact Entry.recordsSound_of_record (e := { e with state := .held _ _, barrier := 0 }) rfl
          (recordSound_bareRecord _ (by tauto) hle)
      · obtain ⟨r, hr⟩ := Option.isSome_iff_exists.mp hr
        exact Entry.recordsSound_of_record (e := { e with barrier := 0 }) hr ((hrecords e he).1 r hr)
    · rw [State.cleanupClaim_span, State.setSpan_span_ne _ _ hsp]
      exact hrecords e' he
  | reset he => exact recordsSound_iff.mpr (by simp [he])
  | params => exact hs
  | resumed he hst =>
    refine hset he rfl ((hrecords _ (find_eq_some he).1).subject ?_ rfl)
    simp [Entry.isSubject, hst, EntryState.isCancelling]
  | delivered he hst =>
    refine hset he rfl (Entry.recordsSound_of_record rfl ((hrecords _ (find_eq_some he).1).1 _ ?_))
    rw [hst]
    rfl
  | removed => exact recordsSound_iff.mpr fun e' he' => hrecords e' ((removeFirst_sublist _ _).subset he')
  | accepted hk hr => exact happend hr (Entry.recordsSound_of_queued rfl)
  | acceptedClosed hk hr => exact happend hr (Entry.recordsSound_of_record rfl (recordSound_bareRecord _ (by tauto) (by omega)))
  | cancelled p =>
    refine recordsSound_iff.mpr fun e' he' => ?_
    obtain ⟨e, he, rfl | ⟨hsubject, rfl⟩⟩ := mem_cancel he'
    · exact hrecords e' he
    · exact (hrecords e he).subject hsubject rfl

theorem RecordsSound.engineReaches {s t : State} (h : s.EngineReaches t) (hb : TableBounded s) (hj : JobsSound s) (hs : RecordsSound s) :
    TableBounded t ∧ JobsSound t ∧ RecordsSound t := by
  induction h with
  | refl => exact ⟨hb, hj, hs⟩
  | tail _ h ih =>
    obtain ⟨hb, hj, hs⟩ := ih
    exact ⟨hb.engineMoved h, hj.engineMoved h, hs.engineMoved h hj⟩

theorem RecordsSound.workReaches {s t : State} (h : s.WorkReaches t) (hb : TableBounded s)
    (hbegun : ∀ sp, (s.span sp).attemptsBegun ≤ 15) (hs : RecordsSound s) :
    TableBounded t ∧ (∀ sp, (t.span sp).attemptsBegun ≤ 15) ∧ RecordsSound t := by
  induction h with
  | refl => exact ⟨hb, hbegun, hs⟩
  | tail _ h ih =>
    obtain ⟨hb, hbegun, hs⟩ := ih
    exact ⟨hb.workMoved h, h.attemptsBegun_le hbegun, hs.workMoved h hb hbegun⟩

theorem SpanUnit.JobSound.attemptsBegun_le {u : SpanUnit} (h : u.JobSound) : u.attemptsBegun ≤ 15 := by
  cases hjob : u.job with
  | none => exact (SpanUnit.attemptsBegun_of_none hjob).trans_le (by omega)
  | some j =>
    obtain ⟨-, hlimit, hle, -⟩ := h j hjob
    exact (SpanUnit.attemptsBegun_le_of_some hjob).trans (by omega)

/-- Settles O9: a record is made of the fields of its entry's job, or is bare; engine moves come before work moves, so that a closed span's
attempts are those of a sound job. -/
theorem recordsStaySound : Obligations.RecordsStaySound := by
  intro s t hbounded _ _ hjobs hrecords hstep
  obtain ⟨m, hengine, hwork⟩ := State.Reaches.of_step hstep
  obtain ⟨hb, hj, hr⟩ := hrecords.engineReaches hengine hbounded hjobs
  obtain ⟨-, -, ht⟩ := hr.workReaches hwork hb fun sp => (hj sp).attemptsBegun_le
  exact ht

end Sys2Proof.Machine

/-! The Notice Queue and the saturating counters: what each act and event leaves of them stays in its range (R121, R125, R151). -/

namespace Sys2Proof.Machine

set_option Elab.async false -- one proof after another, as in the files under Laws/

/-! ## The first element that satisfies a predicate, changed -/

section
variable {α β : Type} {p : α → Bool} {f : α → α}

theorem mem_updateFirst {l : List α} {x : α} (h : x ∈ updateFirst p f l) : x ∈ l ∨ ∃ y ∈ l, p y = true ∧ x = f y := by
  induction l with
  | nil => cases h
  | cons a l ih =>
    unfold updateFirst at h
    split_ifs at h with ha
    · obtain rfl | h := List.mem_cons.mp h
      · exact .inr ⟨a, List.mem_cons_self, ha, rfl⟩
      · exact .inl (List.mem_cons_of_mem _ h)
    · obtain rfl | h := List.mem_cons.mp h
      · exact .inl List.mem_cons_self
      · obtain h | ⟨y, hy, hp, rfl⟩ := ih h
        · exact .inl (List.mem_cons_of_mem _ h)
        · exact .inr ⟨y, List.mem_cons_of_mem _ hy, hp, rfl⟩

theorem map_updateFirst {g : α → β} (h : ∀ a, g (f a) = g a) (l : List α) : (updateFirst p f l).map g = l.map g := by
  induction l with
  | nil => rfl
  | cons a l ih => unfold updateFirst; split_ifs <;> simp [h, ih]

theorem updateFirst_append {before : List α} (h : ∀ x ∈ before, p x = false) {a : α} (ha : p a = true) (after : List α) :
    updateFirst p f (before ++ a :: after) = before ++ f a :: after := by
  induction before with
  | nil => simp [updateFirst, ha]
  | cons b before ih => simp [updateFirst, h b, ih fun x hx => h x (List.mem_cons_of_mem _ hx)]

end

/-! ## Notices -/

/-- The span, node and kind of a notice (R122). -/
def Notice.subject (n : Notice) : Fin 4 × Nat × Nat := (n.span, n.node, n.kind)

theorem Notice.matches_iff (n : Notice) (sp : Fin 4) (node kind : Nat) :
    n.matches sp node kind = true ↔ n.subject = (sp, node, kind) := by
  simp [Notice.matches, Notice.subject, and_assoc]

/-- A notice with an offer folded in (R122). -/
def Notice.folded (n : Notice) (value : Nat) : Notice := { n with value := value, count := saturate Config.countTop n.count }

theorem coalesce_eq_updateFirst (sp : Fin 4) (node kind value : Nat) (ns : List Notice) :
    coalesce sp node kind value ns = updateFirst (fun n => n.matches sp node kind) (fun n => n.folded value) ns := by
  induction ns with
  | nil => rfl
  | cons n ns ih => simp only [coalesce, updateFirst, ih]; rfl

/-- Table 7-3: the ranges of a notice's fields. -/
structure Notice.InRange (n : Notice) : Prop where
  node_pos : 1 ≤ n.node
  node_le : n.node ≤ 15
  kind_pos : 1 ≤ n.kind
  kind_le : n.kind ≤ 65
  value_le : n.value ≤ 65535
  count_pos : 1 ≤ n.count
  count_le : n.count ≤ 255

theorem Notice.InRange.folded {n : Notice} (h : n.InRange) {value : Nat} (hv : value ≤ 65535) : (n.folded value).InRange := by
  obtain ⟨h1, h2, h3, h4, -, -, -⟩ := h
  refine ⟨h1, h2, h3, h4, hv, ?_, saturate_le _ _⟩
  simp [Notice.folded, saturate, Config.countTop]

/-- R121, R124, R125: what is said of the Notice Queue, its lost count included. -/
structure NoticeQueue.Sound (q : NoticeQueue) : Prop where
  capacity : q.entries.length ≤ 24
  apart : (q.entries.map Notice.subject).Nodup
  inRange : ∀ n ∈ q.entries, n.InRange
  credit : q.credit ≤ 8
  lost : q.lost ≤ 65535

theorem pairwise_subjects (ns : List Notice) :
    ns.Pairwise (fun a b => ¬ (a.span = b.span ∧ a.node = b.node ∧ a.kind = b.kind)) ↔ (ns.map Notice.subject).Nodup := by
  simp [List.Nodup, List.pairwise_map, Notice.subject]

theorem noticeQueueSound_iff {s : State} : s.notices.Sound ↔ NoticesSound s ∧ s.notices.lost ≤ 65535 := by
  rw [NoticesSound, pairwise_subjects]
  exact ⟨fun ⟨h1, h2, h3, h4, h5⟩ =>
      ⟨⟨h1, h2, fun n hn => have ⟨a, b, c, d, e, f, g⟩ := h3 n hn; ⟨a, b, c, d, e, f, g⟩, h4⟩, h5⟩,
    fun ⟨⟨h1, h2, h3, h4⟩, h5⟩ => ⟨h1, h2, fun n hn => have ⟨a, b, c, d, e, f, g⟩ := h3 n hn; ⟨a, b, c, d, e, f, g⟩, h4, h5⟩⟩

theorem NoticeQueue.sound_reset : resetNotices.Sound := ⟨by simp [resetNotices], by simp [resetNotices], by simp [resetNotices], by simp [resetNotices], by simp [resetNotices]⟩

section
variable {s : State} (hs : s.notices.Sound)
include hs

/-- An offer of a notice in range keeps the queue sound (R122). -/
theorem NoticeQueue.Sound.offer (sp : Fin 4) {node kind value : Nat} (hn : 1 ≤ node ∧ node ≤ 15) (hk : 1 ≤ kind ∧ kind ≤ 65)
    (hv : value ≤ 65535) : (s.offer sp node kind value).notices.Sound := by
  obtain ⟨hcapacity, hapart, hrange, hcredit, hlost⟩ := hs
  unfold State.offer
  dsimp only
  split_ifs with hany hlength
  · simp only [State.setNotices_notices, coalesce_eq_updateFirst]
    refine ⟨by simpa using hcapacity, ?_, fun n hn => ?_, hcredit, hlost⟩
    · dsimp only
      rwa [map_updateFirst (f := fun n => n.folded value) (g := Notice.subject) fun _ => rfl]
    · obtain hn | ⟨m, hm, -, rfl⟩ := mem_updateFirst hn
      · exact hrange n hn
      · exact (hrange m hm).folded hv
  · refine ⟨?_, ?_, fun n hn' => ?_, hcredit, hlost⟩
    · simp only [Config.noticeCapacity] at hlength
      simp
      omega
    · simp only [List.any_eq_true, Notice.matches_iff, not_exists, not_and] at hany
      simp only [State.setNotices_notices, List.map_append, List.map_cons, List.map_nil, List.nodup_append, List.mem_map, List.mem_singleton]
      refine ⟨hapart, by simp, ?_⟩
      rintro _ ⟨n, hn, rfl⟩ _ rfl
      exact hany n hn
    · obtain hn' | hn' := List.mem_append.mp hn'
      · exact hrange n hn'
      · obtain rfl := List.mem_singleton.mp hn'
        exact ⟨hn.1, hn.2, hk.1, hk.2, hv, by simp, by simp⟩
  · exact ⟨hcapacity, hapart, hrange, hcredit, saturate_le _ _⟩

theorem NoticeQueue.Sound.offers (sp : Fin 4) {nodes : List Nat} (hn : ∀ a ∈ nodes, 1 ≤ a ∧ a ≤ 15) :
    (nodes.foldl (fun s a => s.offer sp a nodeLost 0) s).notices.Sound := by
  induction nodes generalizing s with
  | nil => exact hs
  | cons a nodes ih =>
    exact ih (hs.offer sp (hn a List.mem_cons_self) (by simp [nodeLost]) (by simp)) fun b hb => hn b (List.mem_cons_of_mem _ hb)

/-! ## Reports -/

omit hs in
/-- A roster node has an address 1 to 15 (R112). -/
theorem SpanUnit.RosterSound.address {u : SpanUnit} (hu : u.RosterSound) {address : Nat} {r : NodeRecord} (h : u.node address = some r) :
    1 ≤ address ∧ address ≤ 15 := by
  obtain ⟨-, -, records⟩ := hu
  obtain ⟨hr, rfl⟩ := SpanUnit.node_eq_some h
  obtain ⟨hlow, hhigh, -⟩ := records r hr
  exact ⟨hlow, hhigh⟩

theorem NoticeQueue.Sound.answered {sp : Fin 4} (hr : (s.span sp).RosterSound) (address : Nat) : (s.answered sp address).notices.Sound := by
  unfold State.answered
  split
  · exact hs
  · next r hr' =>
    dsimp only
    split_ifs
    · exact hs
    · exact NoticeQueue.Sound.offer (s := s.updateSpan sp _) hs sp (hr.address hr') (by simp [nodeFound]) (by simp)

theorem NoticeQueue.Sound.missed {sp : Fin 4} (hr : (s.span sp).RosterSound) (address : Nat) : (s.missed sp address).notices.Sound := by
  unfold State.missed
  split
  · exact hs
  · next r hr' =>
    split_ifs
    · exact hs
    · exact hs
    · exact NoticeQueue.Sound.offer (s := s.updateSpan sp _) hs sp (hr.address hr') (by simp [nodeLost]) (by simp)

theorem NoticeQueue.Sound.pollOutcome {sp : Fin 4} (hr : (s.span sp).RosterSound) {j : Job} {r : AttemptResult} (hfits : r.Fits j)
    (address : Nat) : (s.pollOutcome sp address r).notices.Sound := by
  cases r with
  | silent | garbled => exact hs.missed hr address
  | done | busy | refused | nothing => exact hs.answered hr address
  | notice kind value =>
    obtain ⟨hlow, hhigh, hvalue⟩ := hfits
    simp only [State.pollOutcome]
    split_ifs with h
    · obtain ⟨r, hr'⟩ := Option.isSome_iff_exists.mp h
      exact (hs.answered hr address).offer sp (hr.address hr') ⟨hlow, by omega⟩ hvalue
    · exact hs

theorem NoticeQueue.Sound.answeredIf {sp : Fin 4} (hr : (s.span sp).RosterSound) (b : Bool) (address : Nat) :
    ((if b then s.answered sp address else s).jobEnded sp).notices.Sound := by
  rw [State.jobEnded_notices]
  split_ifs
  · exact hs.answered hr address
  · exact hs

theorem NoticeQueue.Sound.handOver {sp : Fin 4} (hr : (s.span sp).RosterSound) {j : Job} {r : AttemptResult} (hfits : r.Fits j) :
    (s.handOver sp j r).notices.Sound := by
  unfold State.handOver
  split
  · rw [State.jobEnded_notices]
    exact hs.pollOutcome hr hfits _
  · exact NoticeQueue.Sound.answeredIf (s := s.deferredEnded sp _) (by simpa using hs) hr _ _
  · refine NoticeQueue.Sound.answeredIf (s := s.postEnded sp _) (by simpa using hs) ?_ _ _
    unfold State.postEnded
    split
    · exact hr
    · dsimp only
      split <;> simpa [SpanUnit.RosterSound] using hr

theorem NoticeQueue.Sound.attemptEnded {sp : Fin 4} (hr : (s.span sp).RosterSound) {j : Job} (hj : (s.span sp).job = some j)
    {r : AttemptResult} (hfits : r.Fits j) : (s.attemptEnded sp r).notices.Sound := by
  unfold State.attemptEnded
  rw [hj]
  dsimp only
  split_ifs
  · exact NoticeQueue.Sound.handOver (s := s.setSpan sp _) hs (by rw [State.setSpan_span_self]; exact hr) (hfits.counted _)
  · exact hs

/-- An attempt ends, with SDn idle or not. -/
theorem NoticeQueue.Sound.idleAttemptEnded {sp : Fin 4} (hr : (s.span sp).RosterSound) {j : Job} (hj : (s.span sp).job = some j)
    {r : AttemptResult} (hfits : r.Fits j) (idle : Bool) :
    ((s.updateSpan sp fun u => { u with idle3 := idle }).attemptEnded sp r).notices.Sound := by
  refine NoticeQueue.Sound.attemptEnded (s := s.updateSpan sp _) hs ?_ (j := j) ?_ hfits
  · rw [State.updateSpan_span_self]; exact hr
  · rw [State.updateSpan_span_self]; exact hj

/-! ## Acts and events -/

theorem NoticeQueue.Sound.event {t : State} (h : s.Event t) (hr : RosterSound s) : t.notices.Sound := by
  cases h with
  | windowExpired sp =>
    unfold State.windowExpired
    split
    · next ms h =>
      obtain ⟨j, hj, -⟩ := SpanUnit.phase_eq_some.mp h
      exact hs.idleAttemptEnded (hr sp) hj (r := .silent) trivial _
    · exact hs
  | responseEnded sp chars =>
    unfold State.responseEnded
    split
    · exact hs
    · next j hj =>
      split
      · exact hs.idleAttemptEnded (hr sp) hj (j.fits_judge chars) _
      · exact hs
  | responseOverlong sp =>
    unfold State.responseOverlong
    split
    · next h =>
      obtain ⟨j, hj, -⟩ := SpanUnit.phase_eq_some.mp h
      exact hs.idleAttemptEnded (hr sp) hj (r := .garbled none) trivial _
    · exact hs
  | discardExpired | lingerExpired | settleExpired | pollTimerExpired | turnaroundCompleted | commandSent | responseStarted
  | backoffExpired | lineFault => simpa using hs

theorem NoticeQueue.Sound.setMissLimit {sp : Fin 4} (hr : (s.span sp).RosterSound) (limit : Nat) : (s.setMissLimit sp limit).notices.Sound := by
  refine NoticeQueue.Sound.offers (s := s.setSpan sp _) hs sp fun a ha => ?_
  obtain ⟨-, -, records⟩ := hr
  obtain ⟨r, hr, rfl⟩ := List.mem_map.mp ha
  obtain ⟨hlow, hhigh, -⟩ := records r (List.mem_filter.mp hr).1
  exact ⟨hlow, hhigh⟩

theorem NoticeQueue.Sound.apply (hr : RosterSound s) (c : Change) : (s.apply c).notices.Sound := by
  cases c with
  | missLimit sp n => exact hs.setMissLimit (hr sp) n
  | _ => simpa [State.apply, State.updateParams] using hs

theorem NoticeQueue.Sound.setParameter (hr : RosterSound s) (code index : Byte) (value : List Byte) :
    (s.setParameter code index value).1.notices.Sound := by
  unfold State.setParameter
  split
  · exact hs
  · exact hs
  · split
    · exact hs
    · split_ifs
      · exact hs.apply hr _
      · exact hs

theorem NoticeQueue.Sound.act (hr : RosterSound s) (o : Fin 8) (m : HostMessage) : (s.act o m).1.notices.Sound := by
  cases m with
  | set code index value => exact hs.setParameter hr code index value
  | credit grant =>
    obtain ⟨hcapacity, hapart, hrange, -, hlost⟩ := hs
    refine ⟨hcapacity, hapart, hrange, ?_, hlost⟩
    simp only [State.act, State.grantCredit, State.setNotices_notices]
    split_ifs
    · exact Nat.zero_le _
    · exact Nat.min_le_left _ _
  | _ => simpa [State.act] using hs

theorem NoticeQueue.Sound.taken {n : Notice} {rest : List Notice} (h : s.notices.entries = n :: rest) :
    NoticeQueue.Sound { entries := rest, credit := s.notices.credit - 1, lost := 0 } := by
  obtain ⟨hcapacity, hapart, hrange, hcredit, -⟩ := hs
  rw [h] at hcapacity hapart hrange
  simp only [List.length_cons] at hcapacity
  refine ⟨?_, (List.nodup_cons.mp hapart).2, fun m hm => hrange m (List.mem_cons_of_mem _ hm), ?_, Nat.zero_le _⟩
  · dsimp only; omega
  · dsimp only; omega

end

/-! ## The counters of the Transaction Table -/

/-- R151: the two counters of the table are in their range. -/
def TransactionTable.CountersOk (t : TransactionTable) : Prop := t.discardCount ≤ 65535 ∧ t.reclaimCount ≤ 65535

/-- The same counters. -/
def TransactionTable.SameCounters (t t' : TransactionTable) : Prop := t'.discardCount = t.discardCount ∧ t'.reclaimCount = t.reclaimCount

theorem TransactionTable.CountersOk.same {t t' : TransactionTable} (h : t.SameCounters t') (ht : t.CountersOk) : t'.CountersOk := by
  obtain ⟨hd, hr⟩ := h
  rwa [TransactionTable.CountersOk, hd, hr]

theorem TransactionTable.SameCounters.refl (t : TransactionTable) : t.SameCounters t := ⟨rfl, rfl⟩

theorem State.startDeferred_counters (s : State) (sp : Fin 4) : s.table.SameCounters (s.startDeferred sp).table := by
  unfold State.startDeferred
  dsimp only
  split
  · exact .refl _
  · split <;> exact ⟨rfl, rfl⟩

theorem State.schedule_counters (s : State) (sp : Fin 4) : s.table.SameCounters (s.schedule sp).table := by
  unfold State.schedule State.decision
  dsimp only
  split_ifs
  · exact .refl _
  · exact .refl _
  · exact s.startDeferred_counters sp
  · exact .refl _
  · exact .refl _
  · exact .refl _

section
variable {s : State} (hs : s.table.CountersOk)
include hs

theorem TransactionTable.CountersOk.schedule (sp : Fin 4) : (s.schedule sp).table.CountersOk := hs.same (s.schedule_counters sp)

theorem TransactionTable.CountersOk.jobEnded (sp : Fin 4) : (s.jobEnded sp).table.CountersOk := by
  rw [State.jobEnded_eq]
  exact TransactionTable.CountersOk.schedule (s := s.updateSpan sp _) hs sp

theorem TransactionTable.CountersOk.answeredIf (b : Bool) (sp : Fin 4) (address : Nat) :
    ((if b then s.answered sp address else s).jobEnded sp).table.CountersOk := by
  refine TransactionTable.CountersOk.jobEnded ?_ sp
  split_ifs <;> simpa using hs

theorem TransactionTable.CountersOk.handOver (sp : Fin 4) (j : Job) (r : AttemptResult) : (s.handOver sp j r).table.CountersOk := by
  unfold State.handOver
  split
  · exact TransactionTable.CountersOk.jobEnded (by simpa using hs) sp
  · exact TransactionTable.CountersOk.answeredIf (s := s.deferredEnded sp _) hs _ sp _
  · refine TransactionTable.CountersOk.answeredIf (s := s.postEnded sp _) ?_ _ sp _
    unfold State.postEnded
    split
    · exact hs
    · dsimp only
      split <;> exact hs

theorem TransactionTable.CountersOk.attemptEnded (sp : Fin 4) (r : AttemptResult) : (s.attemptEnded sp r).table.CountersOk := by
  unfold State.attemptEnded
  split
  · exact hs
  · dsimp only
    split_ifs
    · exact TransactionTable.CountersOk.handOver (s := s.setSpan sp _) hs sp _ _
    · exact hs

theorem TransactionTable.CountersOk.shutSpan (sp : Fin 4) (target : SpanState) (scheduler : Scheduler) (o : CompletionOutcome) :
    (s.shutSpan sp target scheduler o).table.CountersOk := by
  unfold State.shutSpan
  simpa [State.cleanupClaim, TransactionTable.CountersOk] using hs

theorem TransactionTable.CountersOk.event {t : State} (h : s.Event t) : t.table.CountersOk := by
  cases h with
  | discardExpired k =>
    unfold State.discardExpired
    split
    · exact hs
    · split_ifs
      · exact ⟨saturate_le _ _, hs.2⟩
      · exact hs
  | lingerExpired k =>
    unfold State.lingerExpired
    split
    · exact hs
    · split_ifs <;> exact hs
  | settleExpired sp =>
    unfold State.settleExpired
    split_ifs
    · exact TransactionTable.CountersOk.schedule (s := s.updateSpan sp _) hs sp
    · exact hs
  | pollTimerExpired sp =>
    unfold State.pollTimerExpired
    split
    · dsimp only
      split_ifs
      · exact hs
      · exact TransactionTable.CountersOk.schedule (s := s.updateSpan sp _) hs sp
    · exact hs
    · exact hs
  | turnaroundCompleted | commandSent | responseStarted | backoffExpired => exact hs
  | windowExpired sp =>
    unfold State.windowExpired
    split
    · exact TransactionTable.CountersOk.attemptEnded (s := s.updateSpan sp _) hs sp _
    · exact hs
  | responseEnded sp =>
    unfold State.responseEnded
    split
    · exact hs
    · split
      · exact TransactionTable.CountersOk.attemptEnded (s := s.updateSpan sp _) hs sp _
      · exact hs
  | responseOverlong sp =>
    unfold State.responseOverlong
    split
    · exact TransactionTable.CountersOk.attemptEnded (s := s.updateSpan sp _) hs sp _
    · exact hs
  | lineFault sp =>
    unfold State.lineFault
    dsimp only
    split_ifs
    · exact hs.shutSpan sp _ _ _
    · exact hs

omit hs in
/-- A reclaim counts within the range (R14). -/
theorem TransactionTable.CountersOk.reclaim {t : TransactionTable} (ht : t.CountersOk) (e : Entry) : (t.reclaim e).CountersOk := by
  refine ⟨ht.1, ?_⟩
  simp only [TransactionTable.reclaim]
  split_ifs
  · exact saturate_le _ _
  · exact ht.2

omit hs in
theorem TransactionTable.CountersOk.room {t t' : TransactionTable} (ht : t.CountersOk) {sp : Fin 4} {quota : Nat}
    (h : t.room sp quota = .ok t') : t'.CountersOk := by
  have hquota {t₁ : TransactionTable} (h : t.quotaStep sp quota = some t₁) : t₁.CountersOk := by
    unfold TransactionTable.quotaStep at h
    split_ifs at h
    · exact Option.some.inj h ▸ ht
    · obtain ⟨e, -, rfl⟩ := Option.map_eq_some_iff.mp h
      exact ht.reclaim e
  have hcapacity {t₁ t₂ : TransactionTable} (ht₁ : t₁.CountersOk) (h : t₁.capacityStep = some t₂) : t₂.CountersOk := by
    unfold TransactionTable.capacityStep at h
    split_ifs at h
    · exact Option.some.inj h ▸ ht₁
    · obtain ⟨e, -, rfl⟩ := Option.map_eq_some_iff.mp h
      exact ht₁.reclaim e
  unfold TransactionTable.room at h
  split at h
  · cases h
  · next t₁ h₁ =>
    split at h
    · cases h
    · next t₂ h₂ => exact Except.ok.inj h ▸ hcapacity (hquota h₁) h₂

theorem TransactionTable.CountersOk.request (k : Key) (flag : Bool) : (s.request k flag).1.table.CountersOk := by
  unfold State.request
  split
  · unfold State.answerRepeat
    split
    · exact hs
    · exact hs
    · exact hs
    · split_ifs <;> exact hs
    · exact hs
  · split
    · exact hs
    · next sp node _ =>
      split_ifs
      · unfold State.acceptOpen
        split
        · exact hs
        · next t hr =>
          have ht : t.CountersOk := hs.room hr
          dsimp only
          split_ifs
          · exact TransactionTable.CountersOk.schedule (s := s.setTable (t.append _)) ht sp
          · exact ht
      · unfold State.acceptClosed
        split
        · exact hs
        · split
          · exact hs
          · next t hr =>
            have ht : t.CountersOk := hs.room hr
            exact ht

theorem TransactionTable.CountersOk.acceptPost (o : Fin 8) (unit : Fin 4096) (item : Byte) (length : Nat) (data : List Byte) :
    (s.acceptPost o unit item length data).1.table.CountersOk := by
  unfold State.acceptPost
  split
  · exact hs
  · next sp node _ =>
    dsimp only
    split_ifs
    · exact hs
    · exact TransactionTable.CountersOk.schedule (s := s.setSpan sp _) hs sp
    · split <;> exact hs

theorem TransactionTable.CountersOk.spanAction (sp : Fin 4) (a : SpanAction) : (s.spanAction sp a).1.table.CountersOk := by
  cases a with
  | enable =>
    simp only [State.spanAction]
    unfold State.spanEnable
    split
    · exact hs
    · exact hs
    · exact hs
    · exact hs
    · exact TransactionTable.CountersOk.schedule (s := s.updateSpan sp _) hs sp
    · exact hs
  | quiesce => simpa [State.spanAction] using hs
  | off =>
    simp only [State.spanAction]
    unfold State.spanOff
    split
    · exact hs
    · exact hs.shutSpan sp _ _ _
    · exact hs.shutSpan sp _ _ _
    · exact hs.shutSpan sp _ _ _
    · exact hs.shutSpan sp _ _ _
    · exact hs

theorem TransactionTable.CountersOk.apply (c : Change) : (s.apply c).table.CountersOk := by
  cases c with
  | roster sp members =>
    simp only [State.apply, State.setRoster]
    split_ifs
    · exact TransactionTable.CountersOk.schedule (s := s.updateSpan sp _) hs sp
    · exact hs
  | _ => simpa [State.apply, State.updateParams] using hs

theorem TransactionTable.CountersOk.setParameter (code index : Byte) (value : List Byte) :
    (s.setParameter code index value).1.table.CountersOk := by
  unfold State.setParameter
  split
  · exact hs
  · exact hs
  · split
    · exact hs
    · split_ifs
      · exact hs.apply _
      · exact hs

theorem TransactionTable.CountersOk.act (o : Fin 8) (m : HostMessage) : (s.act o m).1.table.CountersOk := by
  cases m with
  | request k flag => exact hs.request k flag
  | post unit item length data => exact hs.acceptPost o unit item length data
  | span sp a => exact hs.spanAction sp a
  | set code index value => exact hs.setParameter code index value
  | cancelKey | cancelAll | get | clear | credit | restart => exact hs

end

/-! ## Every step -/

/-- What a step keeps in range: the notices and their source, the rosters, the parameters and every counter. -/
structure ValuesOk (s : State) : Prop where
  roster : RosterSound s
  params : ParamsInRange s
  posts : ∀ sp, (s.span sp).postsDiscarded ≤ Config.counterTop
  notices : s.notices.Sound
  table : s.table.CountersOk
  errors : s.link.linkErrors ≤ 65535
  overruns : s.link.intakeOverruns ≤ 65535

theorem valuesOk_iff {s : State} : ValuesOk s ↔ RosterSound s ∧ NoticesSound s ∧ ParamsInRange s ∧ CountersBounded s := by
  constructor
  · rintro ⟨hr, hp, hposts, hn, ⟨hd, hc⟩, he, ho⟩
    obtain ⟨hn, hl⟩ := noticeQueueSound_iff.mp hn
    exact ⟨hr, hn, hp, hd, hc, hl, he, ho, hposts⟩
  · rintro ⟨hr, hn, hp, hd, hc, hl, he, ho, hposts⟩
    exact ⟨hr, hp, hposts, noticeQueueSound_iff.mpr ⟨hn, hl⟩, ⟨hd, hc⟩, he, ho⟩

/-- What reaches another state keeps the values of the spans and the parameters in range. -/
theorem ValuesOk.reached {s t : State} (hs : ValuesOk s) (h : s.Reaches t) :
    RosterSound t ∧ ParamsInRange t ∧ ∀ sp, (t.span sp).postsDiscarded ≤ Config.counterTop := by
  obtain ⟨hp, ht⟩ := h.keeps_spans (G := ParamsInRange) (I := fun u => u.RosterSound ∧ u.postsDiscarded ≤ Config.counterTop)
    (fun _ _ h hs => hs.moved h) (fun s sp v _ hm hu => ⟨hu.1.moved hm, hm.postsDiscarded_le hu.2⟩) hs.params
    fun sp => ⟨hs.roster sp, hs.posts sp⟩
  exact ⟨fun sp => (ht sp).1, hp, fun sp => (ht sp).2⟩

theorem ValuesOk.of_reached {s t : State} (hs : ValuesOk s) (h : s.Reaches t) (hn : t.notices.Sound) (ht : t.table.CountersOk)
    (hl : s.link.CountersFrom t.link) : ValuesOk t := by
  obtain ⟨hr, hp, hposts⟩ := hs.reached h
  obtain ⟨he, ho⟩ := hl
  refine ⟨hr, hp, hposts, hn, ht, ?_, ?_⟩
  · exact he.elim (fun h => h.trans_le hs.errors) id
  · exact ho.elim (fun h => h.trans_le hs.overruns) id

theorem State.Event.link_eq {s t : State} (h : s.Event t) : t.link = s.link := by
  cases h <;> simp

theorem State.act_countersFrom (s : State) (o : Fin 8) (m : HostMessage) : s.link.CountersFrom (s.act o m).1.link := by
  by_cases hm : m = .restart
  · subst hm
    exact .same rfl rfl
  · rw [(State.act_link hm).1]
    exact .same rfl rfl

theorem stepKeeps_values : StepKeeps ValuesOk ValuesOk where
  found h := h
  control _ h := h.of_reached (.of_work (.same ⟨rfl, rfl, rfl⟩)) h.notices h.table (.same rfl rfl)
  link hl h := h.of_reached (.of_work (.same ⟨rfl, rfl, rfl⟩)) h.notices h.table hl
  alerts _ h := h.of_reached (.of_work (.same ⟨rfl, rfl, rfl⟩)) h.notices h.table (.same rfl rfl)
  takeNotice hn h := h.of_reached (.of_work (.same ⟨rfl, rfl, rfl⟩)) (h.notices.taken hn) h.table (.same rfl rfl)
  act o m h := h.of_reached (.of_work (.act o m)) (h.notices.act h.roster o m) (h.table.act o m) (State.act_countersFrom _ o m)
  event e h := h.of_reached e.reaches (h.notices.event e h.roster) (h.table.event e) (by rw [e.link_eq]; exact .same rfl rfl)
  hardReset s control bitRate h :=
    h.of_reached (.of_work (.hardReset s control bitRate)) NoticeQueue.sound_reset ⟨Nat.zero_le _, Nat.zero_le _⟩
      ⟨.inr (Nat.zero_le _), .inr (Nat.zero_le _)⟩
  restart {s} h :=
    h.of_reached (.of_work (.restartEvent s)) NoticeQueue.sound_reset ⟨Nat.zero_le _, Nat.zero_le _⟩
      ⟨.inr (Nat.zero_le _), .inr (Nat.zero_le _)⟩

/-- Settles O14: a notice comes from a node of a roster or from an answer that was judged, and every counter stops at its top. -/
theorem valuesStayInRange : Obligations.ValuesStayInRange := by
  intro s t hroster hnotices hparams hcounters hstep
  obtain ⟨-, ht⟩ := valuesOk_iff.mp (stepKeeps_values.step (fun _ h => ⟨h.1, h.2, h.3, h.4, h.5, h.6, h.7⟩)
    (valuesOk_iff.mpr ⟨hroster, hnotices, hparams, hcounters⟩) hstep)
  exact ht

end Sys2Proof.Machine

/-! The two-tier arbiter (R51, R52, R53) and the decision (R50, Table 3-2). -/

namespace Sys2Proof.Machine

set_option Elab.async false -- one proof after another, as in the files under Laws/

/-! ## Rings -/

/-- The positions of a ring of n in search order, from the one after the pointer round to the pointer's own (R52). -/
def ring (n pointer : Nat) [NeZero n] : List (Fin n) := (List.range n).map fun k => Fin.ofNat n (pointer + 1 + k)

/-- How far behind the pointer's successor a position of a ring of n is found. -/
def ringDistance (n pointer p : Nat) : Nat := (p + (n - 1) - pointer) % n

section
variable {n pointer : Nat} [NeZero n]

theorem ringDistance_lt (p : Nat) : ringDistance n pointer p < n := Nat.mod_lt _ (NeZero.pos n)

/-- The position at a distance is found at that distance. -/
theorem ringDistance_ofNat (hp : pointer < n) {k : Nat} (hk : k < n) : ringDistance n pointer (Fin.ofNat n (pointer + 1 + k)).val = k := by
  rw [ringDistance, Fin.val_ofNat]
  by_cases h : pointer + 1 + k < n
  · rw [Nat.mod_eq_of_lt h, show pointer + 1 + k + (n - 1) - pointer = k + n by omega, Nat.add_mod_right, Nat.mod_eq_of_lt hk]
  · rw [Nat.mod_eq_sub_mod (a := pointer + 1 + k) (by omega), Nat.mod_eq_of_lt (a := pointer + 1 + k - n) (by omega),
      show pointer + 1 + k - n + (n - 1) - pointer = k by omega, Nat.mod_eq_of_lt hk]

theorem ofNat_ringDistance (hp : pointer < n) (q : Fin n) : Fin.ofNat n (pointer + 1 + ringDistance n pointer q) = q := by
  refine Fin.ext ?_
  rw [ringDistance, Fin.val_ofNat]
  have hq := q.isLt
  by_cases h : q.val ≤ pointer
  · rw [Nat.mod_eq_of_lt (a := q.val + (n - 1) - pointer) (by omega), show pointer + 1 + (q.val + (n - 1) - pointer) = q.val + n by omega,
      Nat.add_mod_right, Nat.mod_eq_of_lt hq]
  · rw [Nat.mod_eq_sub_mod (a := q.val + (n - 1) - pointer) (by omega), Nat.mod_eq_of_lt (a := q.val + (n - 1) - pointer - n) (by omega),
      show pointer + 1 + (q.val + (n - 1) - pointer - n) = q.val by omega, Nat.mod_eq_of_lt hq]

/-- The first match of a ring: a match, and none nearer. -/
theorem find?_ring_eq_some (hp : pointer < n) {m : Fin n → Bool} {p : Fin n} (h : (ring n pointer).find? m = some p) :
    m p = true ∧ ∀ q : Fin n, ringDistance n pointer q < ringDistance n pointer p → m q = false := by
  obtain ⟨hm, as, bs, hsplit, hbefore⟩ := List.find?_eq_some_iff_append.mp h
  refine ⟨hm, fun q hq => ?_⟩
  have hlen : as.length < n := by
    have := congrArg List.length hsplit
    simp only [ring, List.length_map, List.length_range, List.length_append, List.length_cons] at this
    omega
  have hget (k : Nat) (hk : k < n) : (ring n pointer)[k]'(by simpa [ring] using hk) = Fin.ofNat n (pointer + 1 + k) := by simp [ring]
  have hp' : p = Fin.ofNat n (pointer + 1 + as.length) := by
    rw [← hget _ hlen]
    simp [hsplit]
  rw [hp', ringDistance_ofNat hp hlen] at hq
  have hq' : as[ringDistance n pointer q]'hq = q := by
    have := hget _ (ringDistance_lt (n := n) (pointer := pointer) q.val)
    rw [ofNat_ringDistance hp q] at this
    refine Eq.trans ?_ this
    simp [hsplit, List.getElem_append_left hq]
  have := hbefore q (hq' ▸ List.getElem_mem hq)
  simpa using this

/-- Every position is on the ring. -/
theorem find?_ring_isSome (hp : pointer < n) {m : Fin n → Bool} {q : Fin n} (h : m q = true) : ((ring n pointer).find? m).isSome = true := by
  refine List.find?_isSome.mpr ⟨q, ?_, h⟩
  exact List.mem_map.mpr ⟨ringDistance n pointer q, List.mem_range.mpr (ringDistance_lt _), ofNat_ringDistance hp q⟩

end

/-! ## The arbiter -/

/-- A match on the high ring: a HIGH candidate, or L while there is a LOW candidate (R52). -/
def highMatch (tier : Vector Tier 8) (cand : Fin 8 → Bool) (p : Fin 9) : Bool :=
  if h : p.val < 8 then cand ⟨p.val, h⟩ && tier[(⟨p.val, h⟩ : Fin 8)] == .high else originators.any fun o => cand o && tier[o] == .low

theorem mem_originators (o : Fin 8) : o ∈ originators := by
  revert o
  decide

/-- The arbiter, by its two rings (R52, R53). -/
theorem arbitrate_eq (tier : Vector Tier 8) (cand : Fin 8 → Bool) (high : Fin 9) (low : Fin 8) :
    arbitrate tier cand high low =
      ((ring 9 high).find? (highMatch tier cand)).bind fun p : Fin 9 =>
        if h : p.val < 8 then some (⟨p.val, h⟩, p, low)
        else ((ring 8 low).find? fun o => cand o && tier[o] == Tier.low).map fun o => (o, 8, o) := by
  change (match (ring 9 high).find? (highMatch tier cand) with
    | none => none
    | some p =>
      if h : p.val < 8 then some ((⟨p.val, h⟩ : Fin 8), p, low)
      else
        match (ring 8 low).find? fun o => cand o && tier[o] == Tier.low with
        | none => none
        | some o => some (o, (8 : Fin 9), o)) = _
  cases (ring 9 high).find? (highMatch tier cand) with
  | none => rfl
  | some p =>
    simp only [Option.bind_some]
    split_ifs
    · rfl
    · cases (ring 8 low).find? fun o => cand o && tier[o] == .low <;> rfl

theorem highMatch_castSucc (tier : Vector Tier 8) (cand : Fin 8 → Bool) (o : Fin 8) :
    highMatch tier cand o.castSucc = (cand o && tier[o] == .high) := dif_pos o.isLt

theorem highMatch_eight (tier : Vector Tier 8) (cand : Fin 8 → Bool) :
    highMatch tier cand 8 = true ↔ ∃ o, cand o = true ∧ tier[o] = .low := by
  simp [highMatch, mem_originators]

/-- R52: while there is a candidate, one is chosen. -/
theorem arbitrate_isSome {tier : Vector Tier 8} {cand : Fin 8 → Bool} (h : ∃ o, cand o = true) (high : Fin 9) (low : Fin 8) :
    ∃ r, arbitrate tier cand high low = some r := by
  obtain ⟨o, ho⟩ := h
  have hmatch : ∃ p, highMatch tier cand p = true := by
    cases ht : tier[o] with
    | high => exact ⟨o.castSucc, by rw [highMatch_castSucc, ho, ht]; rfl⟩
    | low => exact ⟨8, (highMatch_eight tier cand).mpr ⟨o, ho, ht⟩⟩
  obtain ⟨q, hq⟩ := hmatch
  obtain ⟨p, hp⟩ := Option.isSome_iff_exists.mp (find?_ring_isSome high.isLt hq)
  rw [arbitrate_eq, hp, Option.bind_some]
  split_ifs with hp8
  · exact ⟨_, rfl⟩
  · obtain rfl : p = 8 := Fin.ext (by have := p.isLt; simp; omega)
    obtain ⟨o', ho', ht'⟩ := (highMatch_eight tier cand).mp (find?_ring_eq_some high.isLt hp).1
    obtain ⟨x, hx⟩ := Option.isSome_iff_exists.mp
      (find?_ring_isSome (m := fun o => cand o && tier[o] == .low) low.isLt (q := o') (by simp [ho', ht']))
    exact ⟨_, by rw [hx]; rfl⟩

/-- Settles O56, by the first match of each ring. -/
theorem arbiterSearchesTheRings : Obligations.ArbiterSearchesTheRings := by
  intro tier cand high low
  refine ⟨fun h => arbitrate_isSome h high low, fun o high' low' h => ?_⟩
  rw [arbitrate_eq] at h
  obtain ⟨p, hp, h⟩ := Option.bind_eq_some_iff.mp h
  obtain ⟨hmatch, hnearer⟩ := find?_ring_eq_some high.isLt hp
  have hhigh (q : Fin 8) (hq : ringDistance 9 high q < ringDistance 9 high p) : ¬ (cand q = true ∧ tier[q] = .high) := by
    have := hnearer q.castSucc hq
    rw [highMatch_castSucc] at this
    simpa using this
  split_ifs at h with hp8
  · cases h
    have hchosen := (highMatch_castSucc tier cand ⟨_, hp8⟩).symm.trans hmatch
    simp only [Bool.and_eq_true, beq_iff_eq] at hchosen
    refine ⟨hchosen.1, .inl ⟨hchosen.2, rfl, rfl, hhigh, fun h8 q hq => ?_⟩⟩
    have := hnearer 8 h8
    rw [Bool.eq_false_iff] at this
    exact this ((highMatch_eight tier cand).mpr ⟨q, hq⟩)
  · obtain rfl : p = 8 := Fin.ext (by have := p.isLt; simp; omega)
    obtain ⟨x, hx, h⟩ := Option.map_eq_some_iff.mp h
    cases h
    obtain ⟨hlow, hnearest⟩ := find?_ring_eq_some low.isLt hx
    simp only [Bool.and_eq_true, beq_iff_eq] at hlow
    exact ⟨hlow.1, .inr ⟨hlow.2, rfl, rfl, hhigh, fun q hq => by simpa using hnearest q hq⟩⟩

end Sys2Proof.Machine

/-! The decision, by its steps (R49, R50, Table 3-2), and its liveness: no engine of an ACTIVE span idles while work waits. -/

namespace Sys2Proof.Machine

set_option Elab.async false -- one proof after another, as in the files under Laws/

/-! ## The steps of a decision -/

/-- A deferred entry is eligible on a span (R51). -/
def State.waiting (s : State) (sp : Fin 4) : Bool := s.table.entries.any fun e => e.eligible sp

theorem Entry.eligible_eq (e : Entry) (sp : Fin 4) : e.eligible sp = (e.state == .queued && e.barrier == 0 && e.span == sp) := by
  have : e.state.isQueued = (e.state == .queued) := by cases e.state <;> rfl
  rw [Entry.eligible, this]

theorem Entry.eligible_iff (e : Entry) (sp : Fin 4) : e.eligible sp = true ↔ e.state = .queued ∧ e.barrier = 0 ∧ e.span = sp := by
  simp [Entry.eligible_eq, and_assoc]

theorem candidate_iff (es : List Entry) (sp : Fin 4) (o : Fin 8) :
    candidate es sp o = true ↔ ∃ e ∈ es, e.eligible sp = true ∧ e.key.originator = o := by
  simp [candidate]

section
variable {s : State} {sp : Fin 4}

/-- A decision is made in ACTIVE with the engine free (R49). -/
theorem State.schedule_of_busy (h : (s.span sp).state ≠ .active ∨ (s.span sp).job ≠ none) : s.schedule sp = s := by
  rw [State.schedule, if_neg]
  tauto

theorem State.schedule_of_free (hs : (s.span sp).state = .active) (hj : (s.span sp).job = none) : s.schedule sp = s.decision sp :=
  if_pos ⟨hs, hj⟩

/-- The decision, its conditions as propositions (Table 3-2). -/
theorem State.decision_eq (s : State) (sp : Fin 4) :
    s.decision sp =
      if (s.span sp).pollDue = true ∧ (s.span sp).scheduler.passOver = 2 then s.setSpan sp (s.span sp).startPoll
      else if (s.span sp).posts ≠ [] ∧ ((s.span sp).scheduler.runCount < s.params.postBurst ∨ s.waiting sp = false) then
        s.setSpan sp ((s.span sp).startPost s.params.attempts)
      else if s.waiting sp = true then s.startDeferred sp
      else if (s.span sp).pollDue = true then s.setSpan sp (s.span sp).startPoll
      else s := by
  simp only [State.decision, State.waiting, Config.passOverLimit, Bool.and_eq_true, beq_iff_eq, Bool.or_eq_true, Bool.not_eq_true',
    decide_eq_true_eq, List.isEmpty_eq_false_iff, ne_eq]
  congr

/-- Step 1: a due poll that has been passed over to the limit. -/
theorem State.decision_of_limit (hd : (s.span sp).pollDue = true) (hp : (s.span sp).scheduler.passOver = 2) :
    s.decision sp = s.setSpan sp (s.span sp).startPoll := by
  rw [State.decision_eq, if_pos ⟨hd, hp⟩]

/-- Not step 1. -/
def SpanUnit.NotLimited (u : SpanUnit) : Prop := ¬ (u.pollDue = true ∧ u.scheduler.passOver = 2)

/-- Step 2: a post, while its run is below the burst or nothing else waits. -/
theorem State.decision_of_post (hl : (s.span sp).NotLimited) (hp : (s.span sp).posts ≠ [])
    (hr : (s.span sp).scheduler.runCount < s.params.postBurst ∨ s.waiting sp = false) :
    s.decision sp = s.setSpan sp ((s.span sp).startPost s.params.attempts) := by
  rw [State.decision_eq, if_neg hl, if_pos ⟨hp, hr⟩]

/-- Step 3: an eligible entry. -/
theorem State.decision_of_waiting (hl : (s.span sp).NotLimited)
    (hp : (s.span sp).posts = [] ∨ s.params.postBurst ≤ (s.span sp).scheduler.runCount) (hw : s.waiting sp = true) :
    s.decision sp = s.startDeferred sp := by
  have hpost : ¬ ((s.span sp).posts ≠ [] ∧ ((s.span sp).scheduler.runCount < s.params.postBurst ∨ s.waiting sp = false)) := by
    rintro ⟨hne, hr | hr⟩
    · exact hp.elim hne fun h => absurd hr (Nat.not_lt.mpr h)
    · rw [hw] at hr
      cases hr
  rw [State.decision_eq, if_neg hl, if_neg hpost, if_pos hw]

/-- Step 4: a due poll, or nothing. -/
theorem State.decision_of_rest (hl : (s.span sp).NotLimited) (hp : (s.span sp).posts = []) (hw : s.waiting sp = false) :
    s.decision sp = if (s.span sp).pollDue = true then s.setSpan sp (s.span sp).startPoll else s := by
  rw [State.decision_eq, if_neg hl, if_neg (fun h => h.1 hp), if_neg (by simp [hw])]

/-- R51, R52: while an entry is eligible the arbiter chooses an originator that has one. -/
theorem State.exists_chosen (hw : s.waiting sp = true) (high : Fin 9) (low : Fin 8) :
    ∃ o high' low' e, arbitrate s.params.tier (candidate s.table.entries sp) high low = some (o, high', low') ∧
      (s.table.entries.find? fun e => e.eligible sp && e.key.originator == o) = some e := by
  obtain ⟨e, he, hel⟩ := List.any_eq_true.mp hw
  obtain ⟨⟨o, high', low'⟩, harb⟩ := arbitrate_isSome (tier := s.params.tier)
    ⟨e.key.originator, (candidate_iff s.table.entries sp _).mpr ⟨e, he, hel, rfl⟩⟩ high low
  obtain ⟨-, hchosen⟩ := arbiterSearchesTheRings s.params.tier (candidate s.table.entries sp) high low
  obtain ⟨x, hx, hxel, hxo⟩ := (candidate_iff s.table.entries sp o).mp (hchosen o high' low' harb).1
  obtain ⟨e', he'⟩ := Option.isSome_iff_exists.mp
    (List.find?_isSome (p := fun e => e.eligible sp && e.key.originator == o).mpr ⟨x, hx, by simp [hxel, hxo]⟩)
  exact ⟨o, high', low', e', harb, he'⟩

theorem State.startDeferred_of_chosen {o : Fin 8} {high : Fin 9} {low : Fin 8} {e : Entry}
    (harb : arbitrate s.params.tier (candidate s.table.entries sp) (s.span sp).scheduler.high (s.span sp).scheduler.low = some (o, high, low))
    (he : (s.table.entries.find? fun e => e.eligible sp && e.key.originator == o) = some e) :
    s.startDeferred sp =
      (s.setTable (s.table.setState e.key .running)).setSpan sp ((s.span sp).startDeferred e high low s.params.attempts) := by
  simp [State.startDeferred, harb, he]

end

/-- Settles O55, step by step. -/
theorem schedulerTakesTheFirstStep : Obligations.SchedulerTakesTheFirstStep := by
  intro sp s u waiting due passed
  have hwaiting : waiting = s.waiting sp := by simp only [waiting, State.waiting, Entry.eligible_eq]
  have hdue : due = u.pollDue := rfl
  refine ⟨State.schedule_of_busy, fun hs hj => ?_⟩
  rw [State.schedule_of_free hs hj, hdue, hwaiting]
  refine ⟨State.decision_of_limit, fun hl => ⟨fun p rest hp hr => ?_, fun hnone => ⟨fun hw hb => ?_, fun hw => ?_⟩⟩⟩
  · have hp' : (s.span sp).posts = p :: rest := hp
    rw [State.decision_of_post hl (by simp [hp']) hr, SpanUnit.startPost, hp']
    rfl
  · obtain ⟨o, high, low, e, harb, he⟩ := State.exists_chosen hw u.scheduler.high u.scheduler.low
    obtain ⟨hmatch, before, after, hsplit, hbefore⟩ := List.find?_eq_some_iff_append.mp he
    simp only [Bool.and_eq_true, beq_iff_eq, Entry.eligible_iff] at hmatch
    obtain ⟨⟨hqueued, hbarrier, hspan⟩, ho⟩ := hmatch
    refine ⟨o, high, low, e, before, after, harb, hsplit, hqueued, hbarrier, hspan, ho, fun x hx => ?_, ?_⟩
    · have := hbefore x hx
      simp only [Bool.not_eq_true', Bool.and_eq_false_imp, Entry.eligible_iff, beq_eq_false_iff_ne, ne_eq] at this
      tauto
    · rw [State.decision_of_waiting hl (hnone.imp_right And.left) hw, State.startDeferred_of_chosen harb he]
      have hentries := setState_split hb.2 hsplit .running
      rw [State.setEntries, ← hentries]
      rfl
  · refine State.decision_of_rest hl (hnone.resolve_right fun h => ?_) hw
    rw [hw] at h
    cases h.2

/-! ## No idle engine while work waits -/

/-- R49, R50 of one span. -/
def IdleOk (s : State) (sp : Fin 4) : Prop := (s.span sp).state = .active → (s.span sp).job = none → ¬ WorkWaits s sp

theorem workWaits_iff {s : State} {sp : Fin 4} :
    WorkWaits s sp ↔ (s.span sp).posts ≠ [] ∨ s.waiting sp = true ∨ (s.span sp).pollDue = true := by
  simp [WorkWaits, State.waiting]

/-- An engine that is free in ACTIVE afterwards was so before, with the same posts and a due poll only if one was due. -/
structure SpanUnit.Quiet (u v : SpanUnit) : Prop where
  free : v.state = .active → v.job = none → u.state = .active ∧ u.job = none ∧ v.posts = u.posts ∧ (v.pollDue = true → u.pollDue = true)

theorem SpanUnit.Quiet.refl (u : SpanUnit) : u.Quiet u := ⟨fun hs hj => ⟨hs, hj, rfl, id⟩⟩

theorem SpanUnit.Quiet.of_job {u v : SpanUnit} (h : v.job ≠ none) : u.Quiet v := ⟨fun _ hj => absurd hj h⟩

theorem SpanUnit.Quiet.of_state {u v : SpanUnit} (h : v.state ≠ .active) : u.Quiet v := ⟨fun hs => absurd hs h⟩

theorem SpanUnit.Quiet.of_same {u v : SpanUnit} (hs : v.state = u.state) (hj : v.job = u.job) (hp : v.posts = u.posts)
    (hd : v.pollDue = true → u.pollDue = true) : u.Quiet v := ⟨fun hs' hj' => ⟨hs ▸ hs', hj ▸ hj', hp, hd⟩⟩

/-- No entry of the second list is eligible on a span unless the first has one. -/
def FewerEligible (es es' : List Entry) (sp : Fin 4) : Prop := ∀ e' ∈ es', e'.eligible sp = true → ∃ e ∈ es, e.eligible sp = true

theorem FewerEligible.refl (es : List Entry) (sp : Fin 4) : FewerEligible es es sp := fun e he hel => ⟨e, he, hel⟩

theorem FewerEligible.sublist {es es' : List Entry} {sp : Fin 4} (h : es'.Sublist es) : FewerEligible es es' sp :=
  fun e he hel => ⟨e, h.subset he, hel⟩

/-- What becomes of the entries makes none of them eligible that was not. -/
theorem FewerEligible.filterMap {es : List Entry} {f : Entry → Option Entry} {sp : Fin 4}
    (h : ∀ e e', f e = some e' → e'.eligible sp = true → e.eligible sp = true) : FewerEligible es (es.filterMap f) sp := by
  intro e' he' hel
  obtain ⟨e, he, hf⟩ := List.mem_filterMap.mp he'
  exact ⟨e, he, h e e' hf hel⟩

/-- An entry that leaves QUEUED. -/
theorem FewerEligible.setState {t : TransactionTable} (k : Key) {st : EntryState} (h : st ≠ .queued) (sp : Fin 4) :
    FewerEligible t.entries (t.setState k st).entries sp := by
  intro e' he' hel
  obtain he' | ⟨e, -, -, rfl⟩ := mem_updateFirst he'
  · exact ⟨e', he', hel⟩
  · obtain ⟨hst, -⟩ := (Entry.eligible_iff _ _).mp hel
    exact absurd hst h

/-- A new entry that is not eligible on the span joins behind what room leaves. -/
theorem FewerEligible.append {es es' : List Entry} {e : Entry} {sp : Fin 4} (h : es'.Sublist es) (he : e.eligible sp = false) :
    FewerEligible es (es' ++ [e]) sp := by
  intro e' he' hel
  obtain he' | he' := List.mem_append.mp he'
  · exact ⟨e', h.subset he', hel⟩
  · rw [List.mem_singleton.mp he', he] at hel
    cases hel

theorem IdleOk.quiet {s t : State} {sp : Fin 4} (hs : IdleOk s sp) (hu : (s.span sp).Quiet (t.span sp))
    (he : FewerEligible s.table.entries t.table.entries sp) : IdleOk t sp := by
  intro hstate hjob hwork
  obtain ⟨hstate', hjob', hposts, hdue⟩ := hu.free hstate hjob
  refine hs hstate' hjob' ?_
  obtain h | ⟨e, he', hel⟩ | h := hwork
  · exact .inl (hposts ▸ h)
  · exact .inr (.inl (he e he' hel))
  · exact .inr (.inr (hdue h))

/-- What touches one span, and no eligible entry of another, leaves the other spans as they were. -/
theorem NoIdleWork.of_span {s t : State} (hs : NoIdleWork s) {sp : Fin 4} (hsp : IdleOk t sp) (hspan : ∀ q, q ≠ sp → t.span q = s.span q)
    (he : ∀ q, q ≠ sp → FewerEligible s.table.entries t.table.entries q) : NoIdleWork t := by
  intro q
  by_cases hq : q = sp
  · exact hq ▸ hsp
  · exact IdleOk.quiet (hs q) (hspan q hq ▸ .refl _) (he q hq)

theorem NoIdleWork.setSpan {s : State} (hs : NoIdleWork s) {sp : Fin 4} {v : SpanUnit} (h : (s.span sp).Quiet v) : NoIdleWork (s.setSpan sp v) :=
  hs.of_span (IdleOk.quiet (hs sp) (by rwa [State.setSpan_span_self]) (.refl _ _)) (fun _ => State.setSpan_span_ne _ _)
    fun q _ => .refl _ q

theorem NoIdleWork.updateSpan {s : State} (hs : NoIdleWork s) {sp : Fin 4} {f : SpanUnit → SpanUnit}
    (h : (s.span sp).Quiet (f (s.span sp))) : NoIdleWork (s.updateSpan sp f) := hs.setSpan h

theorem NoIdleWork.setTable {s : State} (hs : NoIdleWork s) {t : TransactionTable} (h : ∀ q, FewerEligible s.table.entries t.entries q) :
    NoIdleWork (s.setTable t) := fun q => IdleOk.quiet (hs q) (.refl _) (h q)

theorem NoIdleWork.congr {s t : State} (hs : NoIdleWork s) (hspans : t.spans = s.spans) (he : t.table.entries = s.table.entries) :
    NoIdleWork t := fun q => by
  have hq : t.span q = s.span q := congrArg (fun v : Vector SpanUnit 4 => v[q]) hspans
  exact IdleOk.quiet (hs q) (hq ▸ .refl _) (he ▸ .refl _ q)

theorem SpanUnit.enterTurnaround_job_ne (u : SpanUnit) (j : Job) : (u.enterTurnaround j).job ≠ none := by
  obtain ⟨begun, phase, h⟩ := u.enterTurnaround_job j
  simp [h]

theorem SpanUnit.startPost_job_ne {u : SpanUnit} (hp : u.posts ≠ []) (attempts : Nat) : (u.startPost attempts).job ≠ none := by
  obtain ⟨p, rest, hposts⟩ := List.exists_cons_of_ne_nil hp
  simp only [SpanUnit.startPost, hposts]
  exact enterTurnaround_job_ne _ _

/-- A span whose engine has a job. -/
theorem idleOk_of_job {s : State} {sp : Fin 4} {v : SpanUnit} (h : v.job ≠ none) : IdleOk (s.setSpan sp v) sp := by
  intro _ hj
  rw [State.setSpan_span_self] at hj
  exact absurd hj h

/-- R49, R50: a decision leaves no work waiting behind a free engine. -/
theorem idleOk_schedule (s : State) (sp : Fin 4) : IdleOk (s.schedule sp) sp := by
  by_cases hfree : (s.span sp).state = .active ∧ (s.span sp).job = none
  · obtain ⟨hs, hj⟩ := hfree
    rw [State.schedule_of_free hs hj]
    by_cases hl : (s.span sp).NotLimited
    · by_cases hw : s.waiting sp = true
      · by_cases hp : (s.span sp).posts = [] ∨ s.params.postBurst ≤ (s.span sp).scheduler.runCount
        · obtain ⟨o, high, low, e, harb, he⟩ := State.exists_chosen hw (s.span sp).scheduler.high (s.span sp).scheduler.low
          rw [State.decision_of_waiting hl hp hw, State.startDeferred_of_chosen harb he]
          exact idleOk_of_job (SpanUnit.enterTurnaround_job_ne _ _)
        · rw [not_or, not_le] at hp
          rw [State.decision_of_post hl hp.1 (.inl hp.2)]
          exact idleOk_of_job (SpanUnit.startPost_job_ne hp.1 _)
      · rw [Bool.not_eq_true] at hw
        by_cases hp : (s.span sp).posts = []
        · rw [State.decision_of_rest hl hp hw]
          split_ifs with hd
          · exact idleOk_of_job (SpanUnit.enterTurnaround_job_ne _ _)
          · intro _ _ h
            rw [workWaits_iff] at h
            simp [hp, hw, hd] at h
        · rw [State.decision_of_post hl hp (.inr hw)]
          exact idleOk_of_job (SpanUnit.startPost_job_ne hp _)
    · obtain ⟨hd, hp⟩ := not_not.mp hl
      rw [State.decision_of_limit hd hp]
      exact idleOk_of_job (SpanUnit.enterTurnaround_job_ne _ _)
  · intro hs hj
    rw [State.schedule, if_neg hfree] at hs hj
    exact absurd ⟨hs, hj⟩ hfree

theorem State.schedule_span_ne (s : State) {sp q : Fin 4} (hq : q ≠ sp) : (s.schedule sp).span q = s.span q := by
  unfold State.schedule State.decision State.startDeferred
  dsimp only
  split_ifs
  · exact State.setSpan_span_ne _ _ hq
  · exact State.setSpan_span_ne _ _ hq
  · split
    · rfl
    · split
      · rfl
      · exact State.setSpan_span_ne _ _ hq
  · exact State.setSpan_span_ne _ _ hq
  · rfl
  · rfl

theorem State.schedule_fewerEligible (s : State) (sp q : Fin 4) : FewerEligible s.table.entries (s.schedule sp).table.entries q := by
  unfold State.schedule State.decision State.startDeferred
  dsimp only
  split_ifs
  · exact .refl _ q
  · exact .refl _ q
  · split
    · exact .refl _ q
    · split
      · exact .refl _ q
      · exact .setState (st := .running) _ nofun q
  · exact .refl _ q
  · exact .refl _ q
  · exact .refl _ q

/-- A decision behind changes of one span alone. -/
theorem NoIdleWork.scheduled {s t : State} (hs : NoIdleWork s) (sp : Fin 4) (hspan : ∀ q, q ≠ sp → t.span q = s.span q)
    (he : ∀ q, q ≠ sp → FewerEligible s.table.entries t.table.entries q) : NoIdleWork (t.schedule sp) := by
  refine hs.of_span (idleOk_schedule t sp) (fun q hq => (t.schedule_span_ne hq).trans (hspan q hq)) fun q hq e' he' hel => ?_
  obtain ⟨e, he₁, hel₁⟩ := t.schedule_fewerEligible sp q e' he' hel
  exact he q hq e he₁ hel₁

/-! ## Events -/

/-- Engine moves inside an attempt. -/
theorem SpanUnit.quiet_idle3 (u : SpanUnit) (b : Bool) : u.Quiet { u with idle3 := b } := .of_same rfl rfl rfl id

theorem SpanUnit.quiet_setPhase (u : SpanUnit) (p : Phase) : u.Quiet (u.setPhase p) :=
  ⟨fun hs hj => ⟨hs, by simpa [SpanUnit.setPhase] using hj, rfl, id⟩⟩

theorem SpanUnit.quiet_turnaroundCompleted (u : SpanUnit) : u.Quiet u.turnaroundCompleted := by
  unfold SpanUnit.turnaroundCompleted
  split
  · exact .refl u
  · split
    · exact .of_job (by simp [SpanUnit.beginAttempt])
    · exact .refl u

theorem SpanUnit.quiet_commandSent (u : SpanUnit) (lineActive : Bool) : u.Quiet (u.commandSent lineActive) := by
  unfold SpanUnit.commandSent
  split
  · exact ⟨fun hs hj => ⟨hs, by simpa [SpanUnit.setPhase] using hj, rfl, id⟩⟩
  · exact .refl u

theorem SpanUnit.quiet_responseStarted (u : SpanUnit) : u.Quiet u.responseStarted := by
  unfold SpanUnit.responseStarted
  split
  · exact u.quiet_setPhase _
  · exact .refl u
  · exact .refl u
  · exact u.quiet_idle3 _
  · exact u.quiet_idle3 _
  · exact u.quiet_idle3 _

theorem SpanUnit.quiet_lineIdle (u : SpanUnit) : u.Quiet u.lineIdle := by
  unfold SpanUnit.lineIdle
  split
  · exact u.quiet_turnaroundCompleted
  · exact u.quiet_idle3 _
  · exact u.quiet_idle3 _
  · exact .refl u
  · exact .refl u
  · exact .refl u

theorem SpanUnit.quiet_backoffExpired (u : SpanUnit) : u.Quiet u.backoffExpired := by
  unfold SpanUnit.backoffExpired
  split
  · exact .refl u
  · split
    · exact .of_job (enterTurnaround_job_ne _ _)
    · exact .refl u

/-! ## What happens on one span -/

/-- What happens to a state on one span alone, and to no eligible entry of another. -/
structure State.Local (s t : State) (sp : Fin 4) : Prop where
  spans : ∀ q, q ≠ sp → t.span q = s.span q
  entries : ∀ q, q ≠ sp → FewerEligible s.table.entries t.table.entries q

theorem State.Local.trans {s m t : State} {sp : Fin 4} (h₁ : s.Local m sp) (h₂ : m.Local t sp) : s.Local t sp where
  spans q hq := (h₂.spans q hq).trans (h₁.spans q hq)
  entries q hq e he hel := by
    obtain ⟨e', he', hel'⟩ := h₂.entries q hq e he hel
    exact h₁.entries q hq e' he' hel'

theorem State.local_setSpan (s : State) (sp : Fin 4) (v : SpanUnit) : s.Local (s.setSpan sp v) sp :=
  ⟨fun _ => State.setSpan_span_ne _ _, fun q _ => .refl _ q⟩

theorem State.local_updateSpan (s : State) (sp : Fin 4) (f : SpanUnit → SpanUnit) : s.Local (s.updateSpan sp f) sp := s.local_setSpan sp _

theorem State.Local.of_same {s t : State} (sp : Fin 4) (hspans : t.spans = s.spans) (he : t.table = s.table) : s.Local t sp :=
  ⟨fun q _ => congrArg (fun v : Vector SpanUnit 4 => v[q]) hspans, fun q _ => he ▸ .refl _ q⟩

theorem State.local_answered (s : State) (sp : Fin 4) (address : Nat) : s.Local (s.answered sp address) sp where
  spans q hq := by
    have h : (s.answered sp address).span q = _ := congrArg (fun v : Vector SpanUnit 4 => v[q]) (s.answered_spans sp address)
    exact h.trans (State.setSpan_span_ne s _ hq)
  entries q _ := by rw [State.answered_table]; exact .refl _ q

theorem State.local_pollOutcome (s : State) (sp : Fin 4) (address : Nat) (r : AttemptResult) : s.Local (s.pollOutcome sp address r) sp where
  spans q hq := by
    have h : (s.pollOutcome sp address r).span q = _ := congrArg (fun v : Vector SpanUnit 4 => v[q]) (s.pollOutcome_spans sp address r)
    exact h.trans (State.setSpan_span_ne s _ hq)
  entries q _ := by rw [State.pollOutcome_table]; exact .refl _ q

end Sys2Proof.Machine

/-! No engine idles while work waits (R49, R50), act by act and event by event. -/

namespace Sys2Proof.Machine

set_option Elab.async false -- one proof after another, as in the files under Laws/

/-! ## What a job's end does on its span -/

theorem State.local_deferredEnded (s : State) (sp : Fin 4) (r : CompletionRecord) : s.Local (s.deferredEnded sp r) sp where
  spans _ _ := rfl
  entries q _ e' he' hel := by
    obtain ⟨e, he, ⟨-, -, rfl⟩ | ⟨-, rfl⟩⟩ := mem_completeJob.mp he'
    · exact absurd ((Entry.eligible_iff _ _).mp hel).1 nofun
    · exact ⟨e', he, hel⟩

theorem State.local_postDone (s : State) (sp : Fin 4) : s.Local (s.setEntries (postDone sp s.table.entries)) sp where
  spans _ _ := rfl
  entries q hq e' he' hel := by
    obtain ⟨e, he, rfl⟩ := List.mem_map.mp he'
    split_ifs at hel with hsp
    · obtain ⟨-, -, hspan⟩ := (Entry.eligible_iff _ _).mp hel
      exact absurd (hspan.symm.trans (by simpa using hsp)) hq
    · exact ⟨e, he, hel⟩

theorem State.local_raise (s : State) (n : AlertCondition) (cause : FirstCause) (sp : Fin 4) : s.Local (s.raise n cause) sp :=
  .of_same sp rfl rfl

theorem State.local_refl (s : State) (sp : Fin 4) : s.Local s sp := .of_same sp rfl rfl

theorem State.local_postEnded (s : State) (sp : Fin 4) (o : CompletionOutcome) : s.Local (s.postEnded sp o) sp := by
  unfold State.postEnded
  split
  · exact s.local_refl sp
  · dsimp only
    split
    · exact (s.local_updateSpan sp _).trans (State.local_postDone _ sp)
    · exact ((s.local_updateSpan sp _).trans (State.local_postDone _ sp)).trans (State.local_raise _ _ _ sp)

theorem State.local_answeredIf (s : State) (b : Bool) (sp : Fin 4) (address : Nat) :
    s.Local (if b then s.answered sp address else s) sp := by
  split_ifs
  · exact s.local_answered sp address
  · exact s.local_refl sp

theorem State.local_cleanupClaim (s : State) (sp : Fin 4) (o : CompletionOutcome) (attempts : Nat) :
    s.Local (s.cleanupClaim sp o attempts) sp where
  spans _ _ := rfl
  entries q hq e' he' hel := by
    obtain ⟨e, he, ⟨hsp, hclean⟩ | ⟨-, rfl⟩⟩ := mem_cleanup.mp he'
    · obtain ⟨st, rfl, -⟩ := Entry.cleanedUp_eq_some hclean
      obtain ⟨-, -, hspan⟩ := (Entry.eligible_iff _ _).mp hel
      exact absurd (hspan.symm.trans hsp) hq
    · exact ⟨e', he, hel⟩

theorem State.local_shutSpan (s : State) (sp : Fin 4) (target : SpanState) (scheduler : Scheduler) (o : CompletionOutcome) :
    s.Local (s.shutSpan sp target scheduler o) sp := by
  have hclean := (s.local_setSpan sp ((s.span sp).shut target scheduler)).trans
    (State.local_cleanupClaim _ sp o (s.span sp).attemptsBegun)
  unfold State.shutSpan State.raiseDiscarded
  dsimp only
  split
  · exact hclean
  · exact hclean.trans (State.local_raise _ _ _ sp)

/-- Room is made by removal alone. -/
theorem room_sublist {t t' : TransactionTable} {sp : Fin 4} {quota : Nat} (h : t.room sp quota = .ok t') : t'.entries.Sublist t.entries := by
  have hcapacity {t₁ t₂ : TransactionTable} (h : t₁.capacityStep = some t₂) : t₂.entries.Sublist t₁.entries := by
    unfold TransactionTable.capacityStep at h
    split_ifs at h
    · exact Option.some.inj h ▸ .refl _
    · obtain ⟨e, -, rfl⟩ := Option.map_eq_some_iff.mp h
      exact removeFirst_sublist _ _
  unfold TransactionTable.room at h
  split at h
  · cases h
  · next h₁ =>
    split at h
    · cases h
    · next h₂ => exact Except.ok.inj h ▸ (hcapacity h₂).trans (quotaStep_sublist h₁)

namespace NoIdleWork

variable {s x : State} {sp : Fin 4} (hs : NoIdleWork s)
include hs

theorem of_local {t : State} (h : s.Local t sp) (hsp : IdleOk t sp) : NoIdleWork t := hs.of_span hsp h.spans h.entries

theorem decided (h : s.Local x sp) : NoIdleWork (x.schedule sp) := hs.scheduled sp h.spans h.entries

theorem jobEnded (h : s.Local x sp) : NoIdleWork (x.jobEnded sp) := by
  rw [State.jobEnded_eq]
  exact hs.decided (h.trans (x.local_updateSpan sp _))

/-- R77, R49: the end of a job brings a decision. -/
theorem handOver (h : s.Local x sp) (j : Job) (r : AttemptResult) : NoIdleWork (x.handOver sp j r) := by
  unfold State.handOver
  split
  · exact hs.jobEnded (h.trans (x.local_pollOutcome sp _ _))
  · exact hs.jobEnded ((h.trans (x.local_deferredEnded sp _)).trans (State.local_answeredIf _ _ sp _))
  · exact hs.jobEnded ((h.trans (x.local_postEnded sp _)).trans (State.local_answeredIf _ _ sp _))

omit hs in
theorem retry_job_ne (u : SpanUnit) (j : Job) (r : AttemptResult) : (u.retry j r).job ≠ none := by
  rw [SpanUnit.retry_eq]
  split_ifs
  · simp
  · exact SpanUnit.enterTurnaround_job_ne _ _

theorem attemptEnded (h : s.Local x sp) {j : Job} (hj : (x.span sp).job = some j) (r : AttemptResult) :
    NoIdleWork (x.attemptEnded sp r) := by
  unfold State.attemptEnded
  rw [hj]
  dsimp only
  split_ifs
  · exact hs.handOver (h.trans (x.local_setSpan sp _)) _ _
  · exact hs.of_local (h.trans (x.local_setSpan sp _)) (idleOk_of_job (retry_job_ne _ _ _))

/-- The attempt of a job ends, with SDn idle or not. -/
theorem idleAttemptEnded {j : Job} (hj : (s.span sp).job = some j) (idle : Bool) (r : AttemptResult) :
    NoIdleWork ((s.updateSpan sp fun u => { u with idle3 := idle }).attemptEnded sp r) :=
  hs.attemptEnded (s.local_updateSpan sp _) (by rw [State.updateSpan_span_self]; exact hj) r

/-- A span that has left its open states has no engine to idle. -/
theorem closed {t : State} (h : s.Local t sp) (hstate : (t.span sp).state ≠ .active) : NoIdleWork t :=
  hs.of_local h fun hs => absurd hs hstate

omit hs in
theorem shutSpan_state (s : State) (sp : Fin 4) (target : SpanState) (scheduler : Scheduler) (o : CompletionOutcome) :
    ((s.shutSpan sp target scheduler o).span sp).state = target := by
  unfold State.shutSpan State.raiseDiscarded
  dsimp only
  split <;> simp [SpanUnit.shut]

/-! ## Events -/

theorem event {t : State} (h : s.Event t) : NoIdleWork t := by
  cases h with
  | discardExpired k =>
    unfold State.discardExpired
    split
    · exact hs
    · split_ifs
      · exact (hs.setTable fun q => .sublist (removeFirst_sublist _ _)).congr rfl rfl
      · exact hs
  | lingerExpired k =>
    unfold State.lingerExpired
    split
    · exact hs
    · split_ifs
      · exact hs.setTable fun q => .sublist (removeFirst_sublist _ _)
      · exact hs
  | settleExpired sp =>
    unfold State.settleExpired
    split_ifs
    · exact hs.decided (s.local_updateSpan sp _)
    · exact hs
  | pollTimerExpired sp =>
    unfold State.pollTimerExpired
    split
    · dsimp only
      split_ifs with hroster
      · refine hs.updateSpan (.of_same rfl rfl rfl fun hd => ?_)
        rw [State.updateSpan_span_self] at hroster
        obtain ⟨-, hne, -⟩ := (SpanUnit.pollDue_iff _).mp hd
        exact absurd (by simpa using hroster) hne
      · exact hs.decided (s.local_updateSpan sp _)
    · exact hs
    · exact hs
  | turnaroundCompleted sp => exact hs.updateSpan (SpanUnit.quiet_turnaroundCompleted _)
  | commandSent sp lineActive => exact hs.updateSpan (SpanUnit.quiet_commandSent _ lineActive)
  | responseStarted sp => exact hs.updateSpan (SpanUnit.quiet_responseStarted _)
  | backoffExpired sp => exact hs.updateSpan (SpanUnit.quiet_backoffExpired _)
  | windowExpired sp =>
    unfold State.windowExpired
    split
    · next h =>
      obtain ⟨j, hj, -⟩ := SpanUnit.phase_eq_some.mp h
      exact hs.idleAttemptEnded hj _ _
    · exact hs
  | responseEnded sp chars =>
    unfold State.responseEnded
    split
    · exact hs.updateSpan (SpanUnit.quiet_lineIdle _)
    · next j hj =>
      split
      · exact hs.idleAttemptEnded hj _ _
      · exact hs.updateSpan (SpanUnit.quiet_lineIdle _)
  | responseOverlong sp =>
    unfold State.responseOverlong
    split
    · next h =>
      obtain ⟨j, hj, -⟩ := SpanUnit.phase_eq_some.mp h
      exact hs.idleAttemptEnded hj _ _
    · exact hs
  | lineFault sp =>
    unfold State.lineFault
    dsimp only
    split_ifs
    · refine hs.closed (sp := sp) (((s.local_shutSpan sp _ _ _).trans (State.local_updateSpan _ sp _)).trans (State.local_raise _ _ _ sp)) ?_
      rw [State.raise_span, State.updateSpan_span_self, shutSpan_state]
      nofun
    · exact hs

/-! ## Acts -/

theorem answerRepeat (e : Entry) : NoIdleWork (s.answerRepeat e).1 := by
  unfold State.answerRepeat
  split
  · exact hs
  · exact hs
  · exact hs.setTable fun q => .setState (st := .running) _ nofun q
  · split_ifs
    · exact hs.setTable fun q => .sublist (removeFirst_sublist _ _)
    · exact hs.setTable fun q => .setState (st := .delivered _ _) _ nofun q
  · exact hs

/-- R15, R49: a new entry is eligible at once only behind an empty Post Queue, and brings a decision then. -/
theorem acceptOpen (k : Key) (flag : Bool) (sp : Fin 4) (node : Nat) : NoIdleWork (s.acceptOpen k flag sp node).1 := by
  unfold State.acceptOpen
  split
  · exact hs
  · next t hr =>
    have hother (q : Fin 4) (hq : q ≠ sp) :
        FewerEligible s.table.entries (t.append (newEntry k flag sp node .queued (s.span sp).posts.length)).entries q :=
      .append (room_sublist hr) (by simp [Entry.eligible_eq, newEntry, Ne.symm hq])
    dsimp only
    split_ifs with hbarrier
    · exact hs.scheduled sp (fun _ _ => rfl) hother
    · refine hs.of_span (sp := sp) (fun hstate hjob _ => ?_) (fun _ _ => rfl) hother
      refine hs sp hstate hjob (.inl fun hp => hbarrier ?_)
      simp [hp]

theorem acceptClosed (k : Key) (flag : Bool) (sp : Fin 4) (node : Nat) : NoIdleWork (s.acceptClosed k flag sp node).1 := by
  unfold State.acceptClosed
  split
  · exact hs
  · split
    · exact hs
    · next t hr => exact hs.setTable fun q => .append (room_sublist hr) (by simp [Entry.eligible_eq, newEntry])

theorem request (k : Key) (flag : Bool) : NoIdleWork (s.request k flag).1 := by
  unfold State.request
  split
  · exact hs.answerRepeat _
  · split
    · exact hs
    · split_ifs
      · exact hs.acceptOpen k flag _ _
      · exact hs.acceptClosed k flag _ _

theorem acceptPost (o : Fin 8) (unit : Fin 4096) (item : Byte) (length : Nat) (data : List Byte) :
    NoIdleWork (s.acceptPost o unit item length data).1 := by
  unfold State.acceptPost
  split
  · exact hs
  · next sp node _ =>
    dsimp only
    split_ifs
    · exact hs
    · exact hs.decided (s.local_setSpan sp _)
    · split
      · exact hs
      · refine hs.of_local ((s.local_setSpan sp _).trans (State.local_raise _ _ _ sp)) (IdleOk.quiet (hs sp) ?_ (.refl _ sp))
        rw [State.raise_span, State.setSpan_span_self]
        exact .of_same rfl rfl rfl id

theorem spanEnable (ho : OutputsSound s) (sp : Fin 4) : NoIdleWork (s.spanEnable sp).1 := by
  unfold State.spanEnable
  split
  · exact hs.updateSpan (.of_state (by simp [SpanUnit.enabled]))
  · exact hs
  · exact hs
  · next h =>
    obtain ⟨-, -, -, hjob, -⟩ := ho sp
    refine hs.updateSpan (.of_job fun hnone => ?_)
    have := hjob h
    simp_all
  · exact hs.decided (s.local_updateSpan sp _)
  · exact hs

theorem spanQuiesce (sp : Fin 4) : NoIdleWork (s.spanQuiesce sp).1 := by
  unfold State.spanQuiesce
  split
  · exact hs.updateSpan (.of_state (by dsimp only; split_ifs <;> nofun))
  · exact hs
  · exact hs
  · exact hs
  · exact hs
  · exact hs

theorem spanOff (sp : Fin 4) : NoIdleWork (s.spanOff sp).1 := by
  have hshut (scheduler : Scheduler) (o : CompletionOutcome) : NoIdleWork (s.shutSpan sp .off scheduler o) :=
    hs.closed (s.local_shutSpan sp _ _ _) (by rw [shutSpan_state]; nofun)
  unfold State.spanOff
  split
  · exact hs
  · exact hshut _ _
  · exact hshut _ _
  · exact hshut _ _
  · exact hshut _ _
  · refine hs.closed (sp := sp) ((s.local_updateSpan sp _).trans (State.local_cleanupClaim _ sp _ _)) ?_
    rw [State.cleanupClaim_span, State.updateSpan_span_self]
    nofun

theorem setPollMs (sp : Fin 4) (n : Nat) : NoIdleWork (s.updateSpan sp fun u => u.setPollMs n) := by
  refine hs.updateSpan ⟨fun hstate hjob => ⟨hstate, hjob, rfl, fun hd => ?_⟩⟩
  obtain ⟨htimer, hroster, hn⟩ := (SpanUnit.pollDue_iff _).mp hd
  simp only [SpanUnit.setPollMs] at htimer hn
  rw [if_neg hn] at htimer
  split_ifs at htimer with hopen
  refine (SpanUnit.pollDue_iff _).mpr ⟨htimer, hroster, fun hms => hopen ⟨hms, ?_⟩⟩
  have hactive : (s.span sp).state = .active := hstate
  rw [hactive]
  rfl

theorem setRoster (sp : Fin 4) (members : List Nat) : NoIdleWork (s.setRoster sp members) := by
  simp only [State.setRoster]
  split_ifs with h
  · exact hs.decided (s.local_updateSpan sp _)
  · refine hs.updateSpan (.of_same rfl rfl rfl fun hd => ?_)
    rw [State.updateSpan_span_self] at h
    obtain ⟨htimer, hroster, -⟩ := (SpanUnit.pollDue_iff _).mp hd
    exact absurd ⟨htimer, hroster⟩ h

theorem setMissLimit (sp : Fin 4) (limit : Nat) : NoIdleWork (s.setMissLimit sp limit) := by
  refine (hs.setSpan (sp := sp) (v := { s.span sp with
    params := { (s.span sp).params with missLimit := limit }, roster := (s.span sp).roster.map fun r => r.clamped limit })
    (.of_same rfl rfl rfl fun hd => ?_)).congr ?_ ?_
  · obtain ⟨htimer, hroster, hms⟩ := (SpanUnit.pollDue_iff _).mp hd
    exact (SpanUnit.pollDue_iff _).mpr ⟨htimer, by simpa using hroster, hms⟩
  · simp [State.setMissLimit, offers_spans]
  · rw [State.setMissLimit_table]
    rfl

theorem updateParams (sp : Fin 4) {f : SpanParams → SpanParams} (hpoll : ∀ p, (f p).pollMs = p.pollMs) :
    NoIdleWork (s.updateParams sp f) := by
  refine hs.updateSpan (.of_same rfl rfl rfl fun hd => ?_)
  simpa [SpanUnit.pollDue, hpoll] using hd

theorem apply (c : Change) : NoIdleWork (s.apply c) := by
  cases c with
  | discardMs | lingerMs | attempts | postBurst | tier | route | defaultSpan | alertReporting | alertEnable => exact hs.congr rfl rfl
  | quota | rate | responseMs | backoffMs | settleMs | closedAnswer => exact hs.updateParams _ fun _ => rfl
  | pollMs sp n => exact hs.setPollMs sp n
  | roster sp members => exact hs.setRoster sp members
  | missLimit sp n => exact hs.setMissLimit sp n

theorem setParameter (code index : Byte) (value : List Byte) : NoIdleWork (s.setParameter code index value).1 := by
  unfold State.setParameter
  split
  · exact hs
  · exact hs
  · split
    · exact hs
    · split_ifs
      · exact hs.apply _
      · exact hs

theorem cancel (p : Entry → Bool) : NoIdleWork (s.cancel p).1 := by
  refine hs.setTable fun q e' he' hel => ?_
  obtain ⟨e, he, rfl | ⟨-, rfl⟩⟩ := mem_cancel he'
  · exact ⟨e', he, hel⟩
  · exact absurd ((Entry.eligible_iff _ _).mp hel).1 nofun

theorem act (ho : OutputsSound s) (o : Fin 8) (m : HostMessage) : NoIdleWork (s.act o m).1 := by
  cases m with
  | request k flag => exact hs.request k flag
  | post unit item length data => exact hs.acceptPost o unit item length data
  | cancelKey | cancelAll => exact hs.cancel _
  | span sp a =>
    cases a with
    | enable => exact hs.spanEnable ho sp
    | quiesce => exact hs.spanQuiesce sp
    | off => exact hs.spanOff sp
  | set code index value => exact hs.setParameter code index value
  | get | clear | credit | restart => exact hs.congr rfl rfl

end NoIdleWork

/-! ## Every step -/

theorem OutputsSound.reached {s t : State} (hs : OutputsSound s) (h : s.Reaches t) : OutputsSound t :=
  h.keeps (fun _ _ h hs => hs.engineMoved h) (fun _ _ h hs => hs.workMoved h) hs

theorem noIdleWork_of_off {s : State} (h : ∀ sp, (s.span sp).state = .off) : NoIdleWork s := fun sp hs => by
  rw [h sp] at hs
  cases hs

theorem stepKeeps_noIdleWork :
    StepKeeps (fun s => OutputsSound s ∧ NoIdleWork s) (fun s => OutputsSound s ∧ NoIdleWork s) where
  found h := h
  control _ h := ⟨h.1, h.2.congr rfl rfl⟩
  link _ h := ⟨h.1, h.2.congr rfl rfl⟩
  alerts _ h := ⟨h.1, h.2.congr rfl rfl⟩
  takeNotice _ h := ⟨h.1, h.2.congr rfl rfl⟩
  act o m h := ⟨h.1.reached (.of_work (.act o m)), h.2.act h.1 o m⟩
  event e h := ⟨h.1.reached e.reaches, h.2.event e⟩
  hardReset s control bitRate h :=
    ⟨h.1.reached (.of_work (.hardReset s control bitRate)), noIdleWork_of_off fun sp => by simp [State.hardReset, State.span, State.reset, resetSpan]⟩
  restart {s} h :=
    ⟨h.1.reached (.of_work (.restartEvent s)), noIdleWork_of_off fun sp => by simp [State.restartEvent, State.span, SpanUnit.restarted, resetSpan]⟩

/-- Settles O12: whatever brings work to a span, or frees its engine, brings a decision, and a decision leaves no work waiting. -/
theorem noEngineIdlesWhileWorkWaits : Obligations.NoEngineIdlesWhileWorkWaits := by
  intro s t houtputs hs hstep
  exact (stepKeeps_noIdleWork.step (fun _ h => ⟨h.1, h.2.congr rfl rfl⟩) ⟨houtputs, hs⟩ hstep).2

end Sys2Proof.Machine

/-! The Host Link at work: what the transmitter chooses (R174), and what SERVING and DRAINING say of the queues while frames are taken. -/

namespace Sys2Proof.Machine

set_option Elab.async false -- one proof after another, as in the files under Laws/

/-! ## The transmitter's choice -/

/-- R173: an idle transmitter finds no slot SENDING. -/
theorem QueuesSound.head_not_sending {s : State} (h : QueuesSound s) (hi : s.link.transmitter = .idle) {sl : Slot} {rest : List Slot}
    (hr : s.link.replies = sl :: rest) : sl.sending = false := by
  obtain ⟨-, -, -, -, hhead⟩ := h
  rw [Bool.eq_false_iff]
  intro hsl
  obtain ⟨b, hb⟩ := hhead.mp ⟨sl, by rw [hr]; rfl, hsl⟩
  rw [hi] at hb
  cases hb

theorem State.takeReply_of_filled {s : State} {sl : Slot} {rest : List Slot} (hr : s.link.replies = sl :: rest) (hsl : sl.sending = false) :
    s.takeReply = some (s.setLink { s.link with
      replies := { sl with sending := true } :: rest, transmitter := .sending .reply (frameLayout (replyLayout sl)) }) := by
  simp [State.takeReply, hr, oldestFilled_cons hsl, Slot.bytes_eq_layout]

theorem State.takeReply_of_empty {s : State} (hr : s.link.replies = []) : s.takeReply = none := by
  simp [State.takeReply, hr, oldestFilled]

theorem State.takeAlert_eq (s : State) :
    s.takeAlert = (s.setLink { s.link with
      transmitter := .sending .alert (frameLayout ([0xC2#8, s.link.unsolicited, 0#8] ++ alertLayout s.alerts))
      unsolicited := s.link.unsolicited + 1 }).setAlerts { s.alerts with due := false } := by
  simp [State.takeAlert, State.sendUnsolicited, unsolicitedBytes, frameBytes_eq_layout, AlertUnit.records_eq_layout, AlertUnit.take]

theorem State.takeNotice_eq (s : State) (n : Notice) (rest : List Notice) :
    s.takeNotice n rest = (s.setLink { s.link with
      transmitter := .sending .notice (frameLayout ([0xC1#8, s.link.unsolicited, 0#8, byteOf n.span, byteOf n.node, byteOf n.kind] ++
        bytesOf16 n.value ++ [byteOf n.count] ++ bytesOf16 s.notices.lost))
      unsolicited := s.link.unsolicited + 1 }).setNotices { entries := rest, credit := s.notices.credit - 1, lost := 0 } := by
  simp [State.takeNotice, State.sendUnsolicited, unsolicitedBytes, frameBytes_eq_layout, noticeFields]

/-- Settles O40, by the transmitter, the control state and the Reply Queue. -/
theorem transmitterChoosesInOrder : Obligations.TransmitterChoosesInOrder := by
  intro s hq
  cases ht : s.link.transmitter with
  | sending source bytes => exact State.choose_of_sending ht
  | idle =>
    cases hc : s.control.state with
    | held | announcing => simp [State.choose, ht, hc]
    | draining =>
      cases hr : s.link.replies with
      | nil => simp [State.choose, ht, hc, State.takeReply_of_empty hr]
      | cons sl rest => simp [State.choose, ht, hc, State.takeReply_of_filled hr (hq.head_not_sending ht hr)]
    | serving =>
      cases hr : s.link.replies with
      | cons sl rest => simp [State.choose, ht, hc, State.takeReply_of_filled hr (hq.head_not_sending ht hr)]
      | nil =>
        simp only [State.choose, ht, hc, State.takeReply_of_empty hr, Option.getD_none, State.takeUnsolicited]
        cases hd : s.alerts.due with
        | true => simp only [if_true]; exact s.takeAlert_eq
        | false =>
          cases hn : s.notices.entries with
          | nil => simp
          | cons n rest =>
            by_cases hcredit : s.notices.credit = 0
            · simp [hcredit]
            · simp only [hcredit, if_false, Bool.false_eq_true, Nat.one_le_iff_ne_zero, ne_eq, not_false_eq_true, if_true]
              exact s.takeNotice_eq n rest

/-! ## SERVING and DRAINING -/

/-- R173: at most 8 slots, only the oldest SENDING, and that exactly while the transmitter sends a reply. -/
structure LinkInterface.SlotsSound (l : LinkInterface) : Prop where
  length : l.replies.length ≤ 8
  tail : ∀ sl ∈ l.replies.tail, sl.sending = false
  head : (∃ sl, l.replies.head? = some sl ∧ sl.sending = true) ↔ ∃ b, l.transmitter = .sending .reply b

/-- RSTn is high and the start-up is over. -/
def RelayControl.Released (c : RelayControl) : Prop := c.rstnHigh = true ∧ c.startUp = false

/-- The Host Link in SERVING, between the takes of frames. -/
structure Serving (s : State) : Prop where
  state : s.control.state = .serving
  released : s.control.Released
  receiver : ReceiverSound s
  intake : s.link.intake.length ≤ 4
  slots : s.link.SlotsSound
  fresh : ∀ sl ∈ s.link.replies, sl.ofRestart = false
  notReady : ∀ b bytes, s.link.transmitter ≠ .sending (.ready b) bytes

/-- The Host Link in DRAINING (R155): the DONE to the RESTART is the last reply. -/
structure Draining (s : State) : Prop where
  state : s.control.state = .draining
  released : s.control.Released
  receiver : s.link.receiver = .hunting
  intake : s.link.intake = []
  slots : s.link.SlotsSound
  last : ∃ front sl, s.link.replies = front ++ [sl] ∧ sl.ofRestart = true ∧ ∀ x ∈ front, x.ofRestart = false
  notReady : ∀ b bytes, s.link.transmitter ≠ .sending (.ready b) bytes

/-- R170: a frame waits only while the Reply Queue is full. -/
def Settled (s : State) : Prop := s.link.intake ≠ [] → s.link.replies.length = 8

theorem Serving.queuesSound {s : State} (h : Serving s) (hs : Settled s) : QueuesSound s :=
  ⟨h.intake, h.slots.length, fun hi => ⟨h.state, hs hi⟩, h.slots.tail, h.slots.head⟩

theorem Draining.queuesSound {s : State} (h : Draining s) : QueuesSound s :=
  ⟨by simp [h.intake], h.slots.length, fun hi => absurd h.intake hi, h.slots.tail, h.slots.head⟩

theorem RelayControl.Released.iff {c : RelayControl} (h : c.Released) : ¬ (c.rstnHigh = false ∨ c.startUp = true) := by
  obtain ⟨h1, h2⟩ := h
  simp [h1, h2]

/-- In SERVING the Host Link is sound once no frame waits in vain and the transmitter has chosen. -/
theorem Serving.linkSound {s : State} (h : Serving s) (hs : Settled s) (ht : TransmitterSound s) : LinkSound s := by
  refine ⟨h.receiver, h.queuesSound hs, ht, ⟨?_, ?_, ?_, ?_, ?_⟩, ?_, ?_⟩
  · simp [h.state, h.notReady]
  · simp [h.state]
  · simp only [h.state, reduceCtorEq, false_iff, not_exists, not_and]
    intro sl hsl
    rw [h.fresh sl (List.mem_of_getLast? hsl)]
    nofun
  · exact fun sl hsl => h.fresh sl (List.mem_of_mem_dropLast hsl)
  · simp [h.state, h.released.iff]
  · simp [h.state]
  · simp [h.state]

/-- In DRAINING it is sound once the transmitter has chosen. -/
theorem Draining.linkSound {s : State} (h : Draining s) (ht : s.link.transmitter ≠ .idle) : LinkSound s := by
  obtain ⟨front, sl, hreplies, hlast, hfront⟩ := h.last
  refine ⟨?_, h.queuesSound, fun hi => absurd hi ht, ⟨?_, ?_, ?_, ?_, ?_⟩, ?_, ?_⟩
  · simp [ReceiverSound, h.receiver]
  · simp [h.state, h.notReady]
  · simp [h.receiver]
  · simp [h.state, hreplies, hlast]
  · simpa [hreplies] using hfront
  · simp [h.state, h.released.iff]
  · simp [h.state]
  · simp [h.state]

theorem LinkSound.released {s : State} (h : LinkSound s) (hs : s.control.state ≠ .held) : s.control.Released := by
  obtain ⟨-, -, -, ⟨-, -, -, -, hheld⟩, -⟩ := h
  have := mt hheld.mpr hs
  simpa [RelayControl.Released] using this

theorem LinkSound.slots {s : State} (h : LinkSound s) : s.link.SlotsSound := by
  obtain ⟨-, ⟨-, hlength, -, htail, hhead⟩, -⟩ := h
  exact ⟨hlength, htail, hhead⟩

theorem LinkSound.settled {s : State} (h : LinkSound s) : Settled s := by
  obtain ⟨-, ⟨-, -, hwait, -⟩, -⟩ := h
  exact fun hi => (hwait hi).2

theorem LinkSound.serving {s : State} (h : LinkSound s) (hs : s.control.state = .serving) : Serving s := by
  have hreleased := h.released (by rw [hs]; nofun)
  have hslots := h.slots
  obtain ⟨hreceiver, ⟨hintake, -⟩, -, ⟨hready, -, hlast, hfront, -⟩, -⟩ := h
  refine ⟨hs, hreleased, hreceiver, hintake, hslots, fun sl hsl => ?_, fun b bytes ht => ?_⟩
  · obtain ⟨front, sl', hreplies⟩ := List.eq_nil_or_concat s.link.replies |>.resolve_left (List.ne_nil_of_mem hsl)
    rw [List.concat_eq_append] at hreplies
    rw [hreplies, List.dropLast_concat] at hfront
    rw [hreplies, List.mem_append, List.mem_singleton] at hsl
    obtain hsl | rfl := hsl
    · exact hfront sl hsl
    · rw [Bool.eq_false_iff]
      intro hrestart
      have := hlast.mpr ⟨sl, by simp [hreplies], hrestart⟩
      rw [hs] at this
      cases this
  · have := hready.mpr ⟨b, bytes, ht⟩
    rw [hs] at this
    cases this

theorem LinkSound.draining {s : State} (h : LinkSound s) (hs : s.control.state = .draining) : Draining s := by
  have hreleased := h.released (by rw [hs]; nofun)
  have hslots := h.slots
  obtain ⟨-, ⟨-, -, hwait, -⟩, -, ⟨hready, hreceiver, hlast, hfront, -⟩, -⟩ := h
  refine ⟨hs, hreleased, hreceiver (by rw [hs]; nofun), ?_, hslots, ?_, fun b bytes ht => ?_⟩
  · by_contra hi
    rw [hs] at hwait
    cases (hwait hi).1
  · obtain ⟨sl, hsl, hrestart⟩ := hlast.mp hs
    obtain ⟨front, hreplies⟩ := List.getLast?_eq_some_iff.mp hsl
    refine ⟨front, sl, hreplies, hrestart, ?_⟩
    rwa [hreplies, List.dropLast_concat] at hfront
  · have := hready.mpr ⟨b, bytes, ht⟩
    rw [hs] at this
    cases this

/-! ## The choice makes the link sound -/

/-- The head of the Reply Queue is taken: it is SENDING with the transmitter. -/
theorem LinkInterface.SlotsSound.sent {l : LinkInterface} (h : l.SlotsSound) {sl : Slot} {rest : List Slot} (hr : l.replies = sl :: rest)
    (bytes : List Byte) :
    LinkInterface.SlotsSound { l with replies := { sl with sending := true } :: rest, transmitter := .sending .reply bytes } := by
  obtain ⟨hlength, htail, -⟩ := h
  rw [hr] at hlength htail
  exact ⟨hlength, htail, ⟨fun _ => ⟨bytes, rfl⟩, fun _ => ⟨_, rfl, rfl⟩⟩⟩

/-- An unsolicited message is taken while no reply is there. -/
theorem LinkInterface.slotsSound_of_empty {l : LinkInterface} (hr : l.replies = []) (ht : ∀ b, l.transmitter ≠ .sending .reply b) :
    l.SlotsSound := ⟨by simp [hr], by simp [hr], by simp [hr, ht]⟩

theorem Serving.choose {s : State} (h : Serving s) (hs : Settled s) : LinkSound s.choose := by
  rw [transmitterChoosesInOrder s (h.queuesSound hs)]
  cases ht : s.link.transmitter with
  | sending source bytes => exact h.linkSound hs fun hi => by simp [ht] at hi
  | idle =>
    simp only [h.state]
    cases hr : s.link.replies with
    | cons sl rest =>
      refine Serving.linkSound ⟨h.state, h.released, h.receiver, h.intake, h.slots.sent hr _, ?_, nofun⟩ ?_ nofun
      · intro x hx
        obtain rfl | hx := List.mem_cons.mp hx
        · exact h.fresh sl (by simp [hr])
        · exact h.fresh x (by simp [hr, hx])
      · intro hi
        have := hs hi
        rwa [hr] at this
    | nil =>
      have hunsolicited (source : Source) (bytes : List Byte) (n : Byte) (hsource : source = .alert ∨ source = .notice) {t : State}
          (hlink : t.link = { s.link with replies := [], transmitter := .sending source bytes, unsolicited := n }) (hcontrol : t.control = s.control) :
          LinkSound t := by
        have hne : source ≠ .reply ∧ ∀ b, source ≠ .ready b := by obtain rfl | rfl := hsource <;> simp
        refine Serving.linkSound ⟨by rw [hcontrol]; exact h.state, by rw [hcontrol]; exact h.released, ?_, ?_, ?_, ?_, ?_⟩ ?_ ?_
        · simpa [ReceiverSound, hlink] using h.receiver
        · simpa [hlink] using h.intake
        · exact LinkInterface.slotsSound_of_empty (by simp [hlink]) (by simp [hlink, hne.1])
        · simp [hlink]
        · simp [hlink, hne.2]
        · simpa [Settled, hlink, hr] using hs
        · simp [TransmitterSound, hlink]
      by_cases hd : s.alerts.due = true
      · rw [if_pos hd]
        exact hunsolicited .alert _ _ (.inl rfl) rfl rfl
      · rw [if_neg hd]
        have hidle (hn : s.notices.credit = 0 ∨ s.notices.entries = []) : TransmitterSound s := fun _ =>
          ⟨by rw [h.state]; nofun, fun _ => ⟨hr, by simpa using hd, hn⟩⟩
        cases hn : s.notices.entries with
        | nil => exact h.linkSound hs (hidle (.inr hn))
        | cons n rest =>
          by_cases hcredit : s.notices.credit = 0
          · simp only [hcredit, if_true]
            exact h.linkSound hs (hidle (.inl hcredit))
          · simp only [hcredit, if_false]
            exact hunsolicited .notice _ _ (.inr rfl) rfl rfl

theorem Draining.choose {s : State} (h : Draining s) : LinkSound s.choose := by
  rw [transmitterChoosesInOrder s h.queuesSound]
  cases ht : s.link.transmitter with
  | sending source bytes => exact h.linkSound (by simp [ht])
  | idle =>
    simp only [h.state]
    obtain ⟨front, last, hreplies, hlast, hfront⟩ := h.last
    cases hr : s.link.replies with
    | nil => simp [hr] at hreplies
    | cons sl rest =>
      refine Draining.linkSound ⟨h.state, h.released, h.receiver, h.intake, h.slots.sent hr _, ?_, nofun⟩ nofun
      rw [hr] at hreplies
      cases front with
      | nil =>
        obtain ⟨rfl, rfl⟩ : sl = last ∧ rest = [] := by simpa using hreplies
        exact ⟨[], { sl with sending := true }, rfl, hlast, nofun⟩
      | cons x front =>
        obtain ⟨rfl, rfl⟩ : sl = x ∧ rest = front ++ [last] := by simpa using hreplies
        refine ⟨{ sl with sending := true } :: front, last, rfl, hlast, fun y hy => ?_⟩
        obtain rfl | hy := List.mem_cons.mp hy
        · exact hfront sl List.mem_cons_self
        · exact hfront y (List.mem_cons_of_mem _ hy)

end Sys2Proof.Machine

/-! The Host Link and relay control under every step (R154, R165, R169, R173, R174, Table 9-6). -/

namespace Sys2Proof.Machine

set_option Elab.async false -- one proof after another, as in the files under Laws/

/-! ## Takes -/

theorem LinkInterface.SlotsSound.congr {l l' : LinkInterface} (h : l.SlotsSound) (hr : l'.replies = l.replies)
    (ht : l'.transmitter = l.transmitter) : l'.SlotsSound := by
  obtain ⟨h1, h2, h3⟩ := h
  exact ⟨hr ▸ h1, hr ▸ h2, by rwa [hr, ht]⟩

/-- A FILLED slot joins at the tail (R173). -/
theorem LinkInterface.SlotsSound.filled {l : LinkInterface} (h : l.SlotsSound) (hl : l.replies.length < 8) {sl : Slot}
    (hsl : sl.sending = false) : LinkInterface.SlotsSound { l with replies := l.replies ++ [sl] } := by
  obtain ⟨-, htail, hhead⟩ := h
  refine ⟨by simp; omega, ?_, ?_⟩
  · cases hr : l.replies with
    | nil => simp
    | cons x xs =>
      rw [hr] at htail
      simpa [or_imp, forall_and, hsl] using htail
  · cases hr : l.replies with
    | nil =>
      rw [hr] at hhead
      simpa [hsl] using hhead
    | cons x xs =>
      rw [hr] at hhead
      simpa using hhead

theorem Serving.congr {s t : State} (h : Serving s) (hl : t.link = s.link) (hc : t.control = s.control) : Serving t := by
  obtain ⟨h1, h2, h3, h4, h5, h6, h7⟩ := h
  exact ⟨hc ▸ h1, hc ▸ h2, by rwa [ReceiverSound, hl], hl ▸ h4, hl ▸ h5, hl ▸ h6, hl ▸ h7⟩

theorem Serving.fill {s : State} (h : Serving s) (hl : s.link.replies.length < 8) (f : Frame) (r : Reply) : Serving (s.fill f r false) := by
  refine ⟨h.state, h.released, h.receiver, h.intake, h.slots.filled hl rfl, fun sl hsl => ?_, h.notReady⟩
  obtain hsl | hsl := List.mem_append.mp hsl
  · exact h.fresh sl hsl
  · rw [List.mem_singleton.mp hsl]

/-- R155: the DONE to a RESTART fills the last slot of DRAINING. -/
theorem Serving.drained {s : State} (h : Serving s) (hl : s.link.replies.length < 8) (f : Frame) (r : Reply) :
    Draining (s.startDraining.fill f r true) :=
  ⟨rfl, h.released, rfl, rfl, (h.slots.filled hl rfl).congr rfl rfl, ⟨s.link.replies, _, rfl, rfl, h.fresh⟩, h.notReady⟩

theorem Serving.answer {s : State} (h : Serving s) (hl : s.link.replies.length < 8) (f : Frame) :
    (Serving (s.answer f) ∨ Draining (s.answer f)) ∧ (s.answer f).link.intake.length ≤ s.link.intake.length := by
  unfold State.answer
  split
  · exact ⟨.inl (h.fill hl f _), le_rfl⟩
  · next o m _ =>
    by_cases hm : m = .restart
    · subst hm
      exact ⟨.inr (h.drained hl f _), Nat.zero_le _⟩
    · obtain ⟨hlink, hcontrol⟩ := State.act_link (s := s) (o := o) hm
      have hb : (m == HostMessage.restart) = false := by simp [hm]
      rw [hb]
      refine ⟨.inl ((h.congr hlink hcontrol).fill (by rwa [hlink]) f _), ?_⟩
      simp [State.fill, hlink]

theorem Serving.takes {s : State} (n : Nat) (h : Serving s) (hn : s.link.intake.length ≤ n) :
    (Serving (State.takes n s) ∨ Draining (State.takes n s)) ∧ Settled (State.takes n s) := by
  induction n generalizing s with
  | zero => exact ⟨.inl h, fun hi => absurd (List.length_eq_zero_iff.mp (Nat.le_zero.mp hn)) hi⟩
  | succ n ih =>
    unfold State.takes
    by_cases hcan : s.canTake = true
    · rw [if_pos hcan]
      simp only [State.canTake, Bool.and_eq_true, Bool.not_eq_true', List.isEmpty_eq_false_iff, decide_eq_true_eq] at hcan
      obtain ⟨⟨-, hne⟩, hroom⟩ := hcan
      obtain ⟨f, rest, hintake⟩ := List.exists_cons_of_ne_nil hne
      rw [hintake, List.length_cons] at hn
      have hrest : Serving (s.setLink { s.link with intake := rest }) := by
        refine ⟨h.state, h.released, h.receiver, ?_, h.slots.congr rfl rfl, h.fresh, h.notReady⟩
        have := h.intake
        rw [hintake, List.length_cons] at this
        exact Nat.le_of_succ_le this
      obtain ⟨hwork, hlength⟩ := hrest.answer hroom f
      have htake : s.take = (s.setLink { s.link with intake := rest }).answer f := by simp [State.take, hintake]
      rw [← htake] at hwork hlength
      obtain hserving | hdraining := hwork
      · exact ih hserving (hlength.trans (Nat.le_of_succ_le_succ hn))
      · rw [State.takes_of_empty n hdraining.intake]
        exact ⟨.inr hdraining, fun hi => absurd hdraining.intake hi⟩
    · rw [if_neg hcan]
      refine ⟨.inl h, fun hi => ?_⟩
      have hlength := h.slots.length
      by_contra hroom
      have hless : s.link.replies.length < 8 := by omega
      exact hcan (by simp [State.canTake, h.state, hi, Config.replyCapacity, hless])

theorem Serving.serve {s : State} (h : Serving s) : LinkSound s.serve := by
  obtain ⟨hwork, hsettled⟩ := h.takes s.link.intake.length le_rfl
  obtain hserving | hdraining := hwork
  · exact hserving.choose hsettled
  · exact hdraining.choose

theorem Draining.serve {s : State} (h : Draining s) : LinkSound s.serve := by
  rw [State.serve_of_empty h.intake]
  exact h.choose

/-! ## The receiver -/

/-- What the receiver holds does not yet complete a frame (R165, R166). -/
def Receiver.Sound (r : Receiver) : Prop := ∀ l more, r = .collecting (l :: more) → 3 ≤ l.toNat ∧ l.toNat ≤ 96 ∧ more.length < l.toNat + 2

theorem Receiver.sound_hunting : Receiver.hunting.Sound := nofun

theorem examine_sound (gap : Bool) (skip : Nat) (bytes : List Byte) : (examine gap skip bytes).2.Sound := by
  induction bytes generalizing skip with
  | nil => unfold examine; exact Receiver.sound_hunting
  | cons b rest ih =>
    cases skip with
    | succ skip => unfold examine; exact ih skip
    | zero =>
      unfold examine
      by_cases hb : b = Config.syncByte
      · rw [if_pos hb]
        cases rest with
        | nil =>
          cases gap with
          | true => exact ih 0
          | false => exact fun l more h => by cases h
        | cons l more =>
          dsimp only
          by_cases hlength : lengthByteOk l = true
          · rw [if_pos hlength]
            by_cases hcomplete : l.toNat + 2 ≤ more.length
            · rw [if_pos hcomplete]
              split
              · exact ih 0
              · exact ih _
            · rw [if_neg hcomplete]
              cases gap with
              | true => exact ih 0
              | false =>
                intro l' more' h
                cases h
                simp only [lengthByteOk, Bool.and_eq_true, decide_eq_true_eq] at hlength
                exact ⟨hlength.1, hlength.2, by omega⟩
          · rw [if_neg hlength]
            exact ih 0
      · rw [if_neg hb]
        exact ih 0

theorem Serving.frameFailed {s : State} (h : Serving s) : Serving s.frameFailed :=
  ⟨h.state, h.released, h.receiver, h.intake, h.slots.congr rfl rfl, h.fresh, h.notReady⟩

theorem Serving.offerFrame {s : State} (h : Serving s) (f : Frame) : Serving (s.offerFrame f) := by
  unfold State.offerFrame
  split_ifs with hroom
  · refine ⟨h.state, h.released, h.receiver, ?_, h.slots.congr rfl rfl, h.fresh, h.notReady⟩
    simp only [Config.intakeCapacity] at hroom
    simp
    omega
  · exact ⟨h.state, h.released, h.receiver, h.intake, h.slots.congr rfl rfl, h.fresh, h.notReady⟩

namespace LinkSound

variable {s : State} (h : LinkSound s)
include h

theorem transmitter : TransmitterSound s := by
  obtain ⟨-, -, ht, -⟩ := h
  exact ht

theorem judged (j : Judged) : LinkSound (s.judged j) := by
  unfold State.judged
  split_ifs with hs
  · cases j with
    | failed => exact (h.serving hs).frameFailed.serve
    | good f => exact ((h.serving hs).offerFrame f).serve
  · exact h

theorem judgements (js : List Judged) : LinkSound (js.foldl State.judged s) := by
  induction js generalizing s with
  | nil => exact h
  | cons j rest ih => exact ih (h.judged j)

theorem receiverEvent (hs : s.control.state = .serving) (gap : Bool) (bytes : List Byte) : LinkSound (s.receiverEvent gap bytes) := by
  have hserving := h.serving hs
  refine LinkSound.judgements (s := s.setLink { s.link with receiver := (examine gap 0 bytes).2 })
    (Serving.linkSound ?_ h.settled fun hi => h.transmitter hi) _
  exact ⟨hserving.state, hserving.released, examine_sound gap 0 bytes, hserving.intake, hserving.slots.congr rfl rfl, hserving.fresh,
    hserving.notReady⟩

theorem receive (bytes : List Byte) : LinkSound (s.receive bytes) := by
  unfold State.receive
  split_ifs with hs
  · exact h.receiverEvent hs _ _
  · exact h

theorem gapExceeded : LinkSound s.gapExceeded := by
  unfold State.gapExceeded
  split
  · exact h
  · split_ifs with hs
    · exact h.receiverEvent hs _ _
    · exact h

end LinkSound

/-! ## HELD and ANNOUNCING -/

/-- R159: an OFF span with nothing to do. -/
structure SpanUnit.AtRest (u : SpanUnit) : Prop where
  state : u.state = .off
  job : u.job = none
  timer : u.scheduler.pollTimer = .stopped

/-- Outside SERVING and DRAINING no block has work, and the Host Link holds nothing (R154, R157, R159). -/
structure Dormant (s : State) : Prop where
  receiver : s.link.receiver = .hunting
  intake : s.link.intake = []
  replies : s.link.replies = []
  entries : s.table.entries = []
  notices : s.notices.entries = []
  credit : s.notices.credit = 0
  due : s.alerts.due = false
  clear : ∀ n : Fin 10, (s.alerts.condition n).set = false
  spans : ∀ sp : Fin 4, (s.span sp).AtRest

/-- HELD (R160): RSTn low or the start-up holds the relay. -/
structure Held (s : State) : Prop where
  state : s.control.state = .held
  held : s.control.rstnHigh = false ∨ s.control.startUp = true
  transmitter : s.link.transmitter = .idle
  dormant : Dormant s

/-- ANNOUNCING (R158): READY is in transmission. -/
structure Announcing (s : State) : Prop where
  state : s.control.state = .announcing
  released : s.control.Released
  transmitter : ∃ b bytes, s.link.transmitter = .sending (.ready b) bytes
  dormant : Dormant s

theorem Dormant.atRest {s : State} (h : Dormant s) (ht : s.control.state = .held → s.link.transmitter = .idle) : AtRest s :=
  ⟨ht, fun _ => ⟨h.entries, h.notices, h.credit, h.due, h.replies, h.clear, fun sp => ⟨(h.spans sp).state, (h.spans sp).job, (h.spans sp).timer⟩⟩⟩

theorem Dormant.queuesSound {s : State} (h : Dormant s) (ht : ∀ b, s.link.transmitter ≠ .sending .reply b) : QueuesSound s :=
  ⟨by simp [h.intake], by simp [h.replies], fun hi => absurd h.intake hi, by simp [h.replies], by simp [h.replies, ht]⟩

theorem Held.linkSound {s : State} (h : Held s) : LinkSound s := by
  refine ⟨?_, h.dormant.queuesSound (by simp [h.transmitter]), ?_, ⟨?_, ?_, ?_, ?_, ?_⟩, h.dormant.atRest fun _ => h.transmitter⟩
  · simp [ReceiverSound, h.dormant.receiver]
  · exact fun _ => ⟨by simp [h.state], by simp [h.state]⟩
  · simp [h.state, h.transmitter]
  · simp [h.dormant.receiver]
  · simp [h.state, h.dormant.replies]
  · simp [h.dormant.replies]
  · simp [h.state, h.held]

theorem Announcing.linkSound {s : State} (h : Announcing s) : LinkSound s := by
  obtain ⟨b, bytes, ht⟩ := h.transmitter
  refine ⟨?_, h.dormant.queuesSound (by simp [ht]), ?_, ⟨?_, ?_, ?_, ?_, ?_⟩, h.dormant.atRest (by simp [h.state])⟩
  · simp [ReceiverSound, h.dormant.receiver]
  · exact fun hi => by simp [ht] at hi
  · simp [h.state, ht]
  · simp [h.dormant.receiver]
  · simp [h.state, h.dormant.replies]
  · simp [h.dormant.replies]
  · simp [h.state, h.released.iff]

theorem LinkSound.dormant {s : State} (h : LinkSound s) (hs : s.control.state = .held ∨ s.control.state = .announcing) : Dormant s := by
  have hne : s.control.state ≠ .serving := by obtain hs | hs := hs <;> rw [hs] <;> nofun
  obtain ⟨-, ⟨-, -, hwait, -⟩, -, ⟨-, hreceiver, -⟩, -, hrest⟩ := h
  obtain ⟨hentries, hnotices, hcredit, hdue, hreplies, hclear, hspans⟩ := hrest hs
  refine ⟨hreceiver hne, ?_, hreplies, hentries, hnotices, hcredit, hdue, hclear, fun sp => ?_⟩
  · by_contra hi
    exact hne (hwait hi).1
  · obtain ⟨h1, h2, h3⟩ := hspans sp
    exact ⟨h1, h2, h3⟩

theorem LinkSound.held {s : State} (h : LinkSound s) (hs : s.control.state = .held) : Held s := by
  have hdormant := h.dormant (.inl hs)
  obtain ⟨-, -, -, ⟨-, -, -, -, hheld⟩, hidle, -⟩ := h
  exact ⟨hs, hheld.mp hs, hidle hs, hdormant⟩

theorem LinkSound.announcing {s : State} (h : LinkSound s) (hs : s.control.state = .announcing) : Announcing s := by
  have hdormant := h.dormant (.inr hs)
  have hreleased := h.released (by rw [hs]; nofun)
  obtain ⟨-, -, -, ⟨hready, -⟩, -⟩ := h
  exact ⟨hs, hreleased, hready.mp hs, hdormant⟩

/-! ## Events of the blocks -/

theorem SpanUnit.AtRest.idle {u : SpanUnit} (h : u.AtRest) (b : Bool) : SpanUnit.AtRest { u with idle3 := b } := ⟨h.state, h.job, h.timer⟩

theorem Dormant.updateSpan {s : State} (h : Dormant s) (sp : Fin 4) {f : SpanUnit → SpanUnit} (hf : (f (s.span sp)).AtRest) :
    Dormant (s.updateSpan sp f) := by
  refine ⟨h.receiver, h.intake, h.replies, h.entries, h.notices, h.credit, h.due, h.clear, fun q => ?_⟩
  rw [State.updateSpan_span]
  split_ifs
  · exact hf
  · exact h.spans q

/-- A block at rest takes no event: at most the idle measure of a line changes. -/
theorem Dormant.event {s t : State} (h : Dormant s) (e : s.Event t) : Dormant t := by
  have hphase (sp : Fin 4) : (s.span sp).phase = none := by simp [SpanUnit.phase, (h.spans sp).job]
  cases e with
  | discardExpired k => simpa [State.discardExpired, TransactionTable.find, h.entries] using h
  | lingerExpired k => simpa [State.lingerExpired, TransactionTable.find, h.entries] using h
  | settleExpired sp => simpa [State.settleExpired, (h.spans sp).state] using h
  | pollTimerExpired sp => simpa [State.pollTimerExpired, (h.spans sp).timer] using h
  | turnaroundCompleted sp => exact h.updateSpan sp (by simpa [SpanUnit.turnaroundCompleted, (h.spans sp).job] using h.spans sp)
  | commandSent sp => exact h.updateSpan sp (by simpa [SpanUnit.commandSent, hphase sp] using h.spans sp)
  | responseStarted sp => exact h.updateSpan sp (by simpa [SpanUnit.responseStarted, hphase sp] using (h.spans sp).idle false)
  | backoffExpired sp => exact h.updateSpan sp (by simpa [SpanUnit.backoffExpired, (h.spans sp).job] using h.spans sp)
  | windowExpired sp => simpa [State.windowExpired, hphase sp] using h
  | responseEnded sp =>
    simp only [State.responseEnded, (h.spans sp).job]
    exact h.updateSpan sp (by simpa [SpanUnit.lineIdle, hphase sp] using (h.spans sp).idle true)
  | responseOverlong sp => simpa [State.responseOverlong, hphase sp] using h
  | lineFault sp => simpa [State.lineFault, (h.spans sp).state, SpanState.isOpen] using h

theorem State.Event.control_eq {s t : State} (h : s.Event t) : t.control = s.control := by cases h <;> simp

/-- An event of a block, and the choice behind it. -/
theorem LinkSound.event {s t : State} (h : LinkSound s) (e : s.Event t) : LinkSound t.choose := by
  have hl := e.link_eq
  have hc := e.control_eq
  cases hs : s.control.state with
  | serving => exact ((h.serving hs).congr hl hc).choose (by rw [Settled, hl]; exact h.settled)
  | draining =>
    obtain ⟨h1, h2, h3, h4, h5, h6, h7⟩ := h.draining hs
    exact Draining.choose ⟨hc ▸ h1, hc ▸ h2, hl ▸ h3, hl ▸ h4, hl ▸ h5, hl ▸ h6, hl ▸ h7⟩
  | held =>
    obtain ⟨h1, h2, h3, hd⟩ := h.held hs
    have ht : LinkSound t := Held.linkSound ⟨hc ▸ h1, hc ▸ h2, hl ▸ h3, hd.event e⟩
    rwa [State.choose_of_sound ht.transmitter]
  | announcing =>
    obtain ⟨h1, h2, h3, hd⟩ := h.announcing hs
    have ht : LinkSound t := Announcing.linkSound ⟨hc ▸ h1, hc ▸ h2, hl ▸ h3, hd.event e⟩
    rwa [State.choose_of_sound ht.transmitter]

/-- An event that leaves the alerts and the notices alone gives the transmitter nothing to choose. -/
theorem LinkSound.quietEvent {s t : State} (h : LinkSound s) (e : s.Event t) (ha : t.alerts = s.alerts) (hn : t.notices = s.notices) :
    LinkSound t := by
  have := h.event e
  rwa [State.choose_of_sound (h.transmitter.congr e.link_eq e.control_eq ha hn)] at this

/-! ## Relay control -/

theorem held_hardReset (s : State) {control : RelayControl} (bitRate : BitRate) (hs : control.state = .held)
    (hheld : control.rstnHigh = false ∨ control.startUp = true) : Held (s.hardReset control bitRate) := by
  refine ⟨hs, hheld, rfl, rfl, rfl, rfl, rfl, rfl, rfl, rfl, fun n => ?_, fun sp => ?_⟩
  · simp [State.hardReset, State.reset, resetAlerts, AlertUnit.condition, resetCondition]
  · have hspan : (s.hardReset control bitRate).span sp = resetSpan := by simp [State.hardReset, State.reset, State.span]
    exact hspan ▸ ⟨rfl, rfl, rfl⟩

/-- R157, R158: the restart event announces the relay. -/
theorem announcing_restartEvent {s : State} (h : s.control.Released) : Announcing s.restartEvent := by
  refine ⟨rfl, h, ⟨_, _, rfl⟩, rfl, rfl, rfl, rfl, rfl, rfl, rfl, fun n => ?_, fun sp => ?_⟩
  · show (s.alerts.restarted.condition n).set = false
    simp [AlertUnit.restarted, AlertUnit.condition, Condition.cleared]
  · have hspan : s.restartEvent.span sp = (s.span sp).restarted := by simp [State.restartEvent, State.span, State.takeReady, State.sendUnsolicited, State.setLink]
    exact hspan ▸ ⟨rfl, rfl, rfl⟩

theorem Dormant.congr {s t : State} (h : Dormant s) (hr : t.link.receiver = s.link.receiver) (hi : t.link.intake = s.link.intake)
    (hp : t.link.replies = s.link.replies) (he : t.table = s.table) (hn : t.notices = s.notices) (ha : t.alerts = s.alerts)
    (hs : t.spans = s.spans) : Dormant t := by
  obtain ⟨h1, h2, h3, h4, h5, h6, h7, h8, h9⟩ := h
  refine ⟨hr ▸ h1, hi ▸ h2, hp ▸ h3, he ▸ h4, hn ▸ h5, hn ▸ h6, ha ▸ h7, ha ▸ h8, fun sp => ?_⟩
  have hsp : t.span sp = s.span sp := congrArg (fun v : Vector SpanUnit 4 => v[sp]) hs
  exact hsp ▸ h9 sp

/-- R160: a HELD relay goes on being held, or announces itself, once RSTn or the start-up has changed. -/
theorem Held.leaveHeld {s : State} (h : Held s) (c : RelayControl) (hc : c.state = .held) (straps : Straps) :
    LinkSound ((s.setControl c).leaveHeld straps) := by
  unfold State.leaveHeld
  by_cases hleaves : c.state = .held ∧ c.rstnHigh = true ∧ ¬ c.startUp = true
  · rw [if_pos (by exact hleaves)]
    obtain ⟨-, hrstn, hstart⟩ := hleaves
    refine Announcing.linkSound ⟨rfl, ⟨hrstn, by simpa using hstart⟩, ⟨_, _, rfl⟩, ?_⟩
    exact h.dormant.congr rfl rfl rfl rfl rfl rfl rfl
  · rw [if_neg (by exact hleaves)]
    refine Held.linkSound ⟨hc, ?_, h.transmitter, h.dormant.congr rfl rfl rfl rfl rfl rfl rfl⟩
    by_contra hno
    simp only [State.setControl_control, not_or, Bool.not_eq_false] at hno
    exact hleaves ⟨hc, hno⟩

namespace LinkSound

variable {s : State} (h : LinkSound s)
include h

theorem held_iff : s.control.state = .held ↔ s.control.rstnHigh = false ∨ s.control.startUp = true := by
  obtain ⟨-, -, -, ⟨-, -, -, -, hheld⟩, -⟩ := h
  exact hheld

theorem startUpEnded (straps : Straps) : LinkSound (s.startUpEnded straps) := by
  unfold State.startUpEnded
  split_ifs with hstart
  · have hs := h.held_iff.mpr (.inr hstart)
    exact (h.held hs).leaveHeld { s.control with startUp := false } hs straps
  · exact h

theorem rstnHigh (straps : Straps) : LinkSound (s.rstnHigh straps) := by
  unfold State.rstnHigh
  split_ifs with hrstn
  · exact h
  · have hs := h.held_iff.mpr (.inl (by simpa using hrstn))
    exact (h.held hs).leaveHeld { s.control with rstnHigh := true } hs straps

/-- READY is in transmission in ANNOUNCING alone. -/
theorem announcing_of_ready {b : Bool} {bytes : List Byte} (ht : s.link.transmitter = .sending (.ready b) bytes) : Announcing s := by
  have hs : s.control.state = .announcing := by
    obtain ⟨-, -, -, ⟨hready, -⟩, -⟩ := h
    exact hready.mpr ⟨b, bytes, ht⟩
  exact h.announcing hs

theorem readyBegins : LinkSound s.readyBegins := by
  unfold State.readyBegins
  split
  · next ht =>
    obtain ⟨hs, hreleased, -, hdormant⟩ := h.announcing_of_ready ht
    exact Announcing.linkSound ⟨hs, hreleased, ⟨_, _, rfl⟩, hdormant.congr rfl rfl rfl rfl rfl rfl rfl⟩
  · exact h

/-- A frame ends that was no reply (R177). -/
theorem unsolicitedEnded {source : Source} {bytes : List Byte} (ht : s.link.transmitter = .sending source bytes)
    (hsource : source = .alert ∨ source = .notice) : LinkSound (s.setLink { s.link with transmitter := .idle }).serve := by
  have hslots {l : LinkInterface} (hl : l = { s.link with transmitter := .idle }) : l.SlotsSound := by
    obtain ⟨hlength, htail, hhead⟩ := h.slots
    subst hl
    refine ⟨hlength, htail, ?_⟩
    have hno : ¬ ∃ b, s.link.transmitter = .sending .reply b := by obtain rfl | rfl := hsource <;> simp [ht]
    simpa using mt hhead.mp hno
  cases hs : s.control.state with
  | serving =>
    obtain ⟨h1, h2, h3, h4, -, h6, -⟩ := h.serving hs
    exact Serving.serve ⟨h1, h2, h3, h4, hslots rfl, h6, nofun⟩
  | draining =>
    obtain ⟨h1, h2, h3, h4, -, h6, -⟩ := h.draining hs
    exact Draining.serve ⟨h1, h2, h3, h4, hslots rfl, h6, nofun⟩
  | held =>
    have := (h.held hs).transmitter
    simp [ht] at this
  | announcing =>
    obtain ⟨b, bytes', hready⟩ := (h.announcing hs).transmitter
    obtain rfl | rfl := hsource <;> simp [ht] at hready

/-- R173: while a reply goes out the oldest slot is SENDING, and its end frees that slot. -/
theorem sending_slot {bytes : List Byte} (ht : s.link.transmitter = .sending .reply bytes) :
    ∃ sl rest, s.link.replies = sl :: rest ∧ sl.sending = true ∧ (∀ x ∈ rest, x.sending = false) ∧
      s.freeSlot = s.setLink { s.link with replies := rest, transmitter := .idle } := by
  obtain ⟨-, htail, hhead⟩ := h.slots
  obtain ⟨sl, hsl, hsending⟩ := hhead.mpr ⟨bytes, ht⟩
  obtain ⟨rest, hreplies⟩ := List.head?_eq_some_iff.mp hsl
  rw [hreplies] at htail
  exact ⟨sl, rest, hreplies, hsending, htail, by simp [State.freeSlot, hreplies, removeFirst, hsending]⟩

theorem txFrameEnded : LinkSound s.txFrameEnded := by
  unfold State.txFrameEnded
  split
  · exact h
  · next ht =>
    obtain ⟨sl, rest, hreplies, hsending, hrest, hfree⟩ := h.sending_slot ht
    have hslots {l : LinkInterface} (hl : l = { s.link with replies := rest, transmitter := .idle }) : l.SlotsSound := by
      have hlength := h.slots.length
      rw [hreplies, List.length_cons] at hlength
      subst hl
      refine ⟨Nat.le_of_succ_le hlength, fun x hx => hrest x (List.mem_of_mem_tail hx), ?_⟩
      simp only [reduceCtorEq, exists_false, iff_false, not_exists, not_and, Bool.not_eq_true]
      exact fun x hx => hrest x (List.mem_of_mem_head? hx)
    split_ifs with hends
    · refine (announcing_restartEvent (h.released fun hs => ?_)).linkSound
      have := (h.held hs).transmitter
      rw [ht] at this
      cases this
    · rw [hfree]
      have hfirst : sl.ofRestart = false := by
        simp only [State.endsRestart, hreplies, List.any_cons, hsending, Bool.true_and, Bool.or_eq_true, not_or, Bool.not_eq_true] at hends
        exact hends.1
      cases hs : s.control.state with
      | serving =>
        obtain ⟨h1, h2, h3, h4, -, h6, -⟩ := h.serving hs
        exact Serving.serve ⟨h1, h2, h3, h4, hslots rfl, fun x hx => h6 x (by rw [hreplies]; exact List.mem_cons_of_mem _ hx), nofun⟩
      | draining =>
        obtain ⟨h1, h2, h3, h4, -, ⟨front, last, hlast, hrestart, hfront⟩, -⟩ := h.draining hs
        rw [hreplies] at hlast
        cases front with
        | nil =>
          obtain ⟨rfl, -⟩ : sl = last ∧ rest = [] := by simpa using hlast
          rw [hfirst] at hrestart
          cases hrestart
        | cons x front =>
          obtain ⟨rfl, rfl⟩ : sl = x ∧ rest = front ++ [last] := by simpa using hlast
          exact Draining.serve ⟨h1, h2, h3, h4, hslots rfl, ⟨front, last, rfl, hrestart, fun y hy => hfront y (List.mem_cons_of_mem _ hy)⟩,
            nofun⟩
      | held | announcing => simp [(h.dormant (by simp [hs])).replies] at hreplies
  · next ht => exact h.unsolicitedEnded ht (.inl rfl)
  · next ht => exact h.unsolicitedEnded ht (.inr rfl)
  · next ht =>
    obtain ⟨-, hreleased, -, hdormant⟩ := h.announcing_of_ready ht
    refine Serving.serve ⟨rfl, hreleased, ?_, ?_, ?_, ?_, nofun⟩
    · exact Receiver.sound_hunting
    · simp [hdormant.intake]
    · exact LinkInterface.slotsSound_of_empty hdormant.replies nofun
    · simp [hdormant.replies]

theorem exec (c : Instr) : ∃ t, exec c s = .next t ∧ LinkSound t := by
  cases c with
  | read | write | post | cancelKey | cancelAll | spanEnable | spanQuiesce | spanOff | setRoute | setDefaultSpan | setRoster
  | setMissLimit | setPollMs | setRate | setAlertEnable | setAlertReporting | set | get | clear | credit | restart =>
    exact ⟨_, rfl, h.judged _⟩
  | hostFrame bytes => exact ⟨_, rfl, h.receive bytes⟩
  | hrxByteReceived byte => exact ⟨_, rfl, h.receive [byte]⟩
  | gapFailure => exact ⟨_, rfl, h.gapExceeded⟩
  | txFrameEnd => exact ⟨_, rfl, h.txFrameEnded⟩
  | powerOn => exact ⟨_, rfl, (held_hardReset s _ rfl (.inr rfl)).linkSound⟩
  | rstnLow => exact ⟨_, rfl, (held_hardReset s _ rfl (.inl rfl)).linkSound⟩
  | startUpEnd straps => exact ⟨_, rfl, h.startUpEnded straps⟩
  | rstnHigh straps => exact ⟨_, rfl, h.rstnHigh straps⟩
  | readyFirstByte => exact ⟨_, rfl, h.readyBegins⟩
  | discardExpiry key => exact ⟨_, rfl, h.event (.discardExpired key)⟩
  | lingerExpiry key => exact ⟨_, rfl, h.quietEvent (.lingerExpired key) (by simp) (by simp)⟩
  | settleExpiry sp => exact ⟨_, rfl, h.quietEvent (.settleExpired sp) (by simp) (by simp)⟩
  | pollTimerExpiry sp => exact ⟨_, rfl, h.quietEvent (.pollTimerExpired sp) (by simp) (by simp)⟩
  | turnaroundComplete sp => exact ⟨_, rfl, h.quietEvent (.turnaroundCompleted sp) rfl rfl⟩
  | commandFrameSent sp lineActive => exact ⟨_, rfl, h.quietEvent (.commandSent sp lineActive) rfl rfl⟩
  | responseStart sp => exact ⟨_, rfl, h.quietEvent (.responseStarted sp) rfl rfl⟩
  | backoffExpiry sp => exact ⟨_, rfl, h.quietEvent (.backoffExpired sp) rfl rfl⟩
  | responseWindowExpiry sp => exact ⟨_, rfl, h.event (.windowExpired sp)⟩
  | responseFrameEnd sp chars => exact ⟨_, rfl, h.event (.responseEnded sp chars)⟩
  | responseCharacter37 sp => exact ⟨_, rfl, h.event (.responseOverlong sp)⟩
  | lineFault sp => exact ⟨_, rfl, h.event (.lineFault sp)⟩

end LinkSound

/-- Settles O13: in SERVING and DRAINING takes and the choice put the queues right; in HELD and ANNOUNCING nothing happens to the blocks. -/
theorem linkStaysSound : Obligations.LinkStaysSound := by
  intro s t hs hstep
  unfold step at hstep
  split at hstep
  · exact Host.Outcome.next.inj hstep ▸ hs
  · next c rest _ =>
    have hrest : LinkSound (s.setPending rest) := hs
    obtain ⟨u, hu, hsound⟩ := hrest.exec c
    exact Host.Outcome.next.inj (hu.symm.trans hstep) ▸ hsound

end Sys2Proof.Machine

/-! The machine as a whole: steps, completion, and the state after reset. -/

namespace Sys2Proof.Machine

set_option Elab.async false -- one proof after another, as in the files under Laws/

/-- Settles O1, by the definition of a step. -/
theorem stepRunsTheFrontCommand : Obligations.StepRunsTheFrontCommand := by
  refine ⟨fun c rest s h => ?_, fun s h => ?_⟩
  · simp only [step, h]
  · simp only [step, h]

theorem State.Event.pending_eq {s t : State} (h : s.Event t) : t.pending = s.pending := by cases h <;> simp

theorem State.act_pending_eq (s : State) (o : Fin 8) (m : HostMessage) : (s.act o m).1.pending = s.pending := by
  cases m <;> simp [State.act]

/-- No part of a command touches the commands that wait. -/
theorem stepKeeps_pending (cs : List Instr) : StepKeeps (fun s => s.pending = cs) (fun s => s.pending = cs) where
  found h := h
  control _ h := h
  link _ h := h
  alerts _ h := h
  takeNotice _ h := h
  act o m h := (State.act_pending_eq _ o m).trans h
  event e h := e.pending_eq.trans h
  hardReset _ _ _ h := h
  restart h := h

/-- Settles O2: every command has a meaning, and none of its parts touches the waiting commands. -/
theorem everyCommandCompletes : Obligations.EveryCommandCompletes :=
  fun c s => (stepKeeps_pending s.pending).exec c rfl

theorem State.reset_span (sp : Fin 4) : State.reset.span sp = resetSpan := by simp [State.reset, State.span]

theorem resetRouter_window (i : Fin 8) : resetRouter.window i = none := by simp [resetRouter, Router.window]

theorem resetAlerts_condition (n : Fin 10) : resetAlerts.condition n = resetCondition := by simp [resetAlerts, AlertUnit.condition]

/-- Settles O3, block by block. -/
theorem resetHoldsTheValuesOfTheSpec : Obligations.ResetHoldsTheValuesOfTheSpec := by
  refine ⟨rfl, rfl, rfl, resetRouter_window, rfl, rfl, resetAlerts_condition, rfl, rfl, rfl, rfl, rfl, rfl, rfl, rfl, rfl, rfl, rfl, rfl, rfl,
    rfl, rfl, fun sp => ?_⟩
  rw [State.reset_span]
  exact ⟨rfl, rfl, rfl, rfl, rfl, rfl, rfl, rfl, rfl, rfl, rfl, rfl, rfl⟩

theorem held_reset : Held State.reset := held_hardReset State.reset _ rfl (.inr rfl)

/-- Settles O4: after reset the blocks are at rest, and each invariant speaks of nothing else. -/
theorem resetSatisfiesEveryInvariant : Obligations.ResetSatisfiesEveryInvariant := by
  have hspans {I : SpanUnit → Prop} (h : I resetSpan) (sp : Fin 4) : I (State.reset.span sp) := by rwa [State.reset_span]
  have hposts : resetSpan.PostsSound := by simp [SpanUnit.PostsSound, resetSpan]
  have hscheduler : resetSpan.SchedulerSound := SpanUnit.schedulerSound_of_stopped (Nat.zero_le _) (Nat.zero_le _) rfl
  have hjob : resetSpan.JobSound := SpanUnit.jobSound_of_none rfl
  have hturnaround : resetSpan.TurnaroundSound := SpanUnit.turnaroundSound_of_none rfl
  have hroster : resetSpan.RosterSound := by simp [SpanUnit.RosterSound, resetSpan, resetSpanParams]
  have hsubjects : SubjectsSound State.reset := subjectsSound_iff.mpr fun sp => by
    rw [State.reset_span]
    rfl
  have hidle : NoIdleWork State.reset := noIdleWork_of_off (hspans (I := fun u => u.state = .off) rfl)
  have hparams : ParamsInRange State.reset :=
    ⟨by decide, by decide, by decide, by decide, by decide, by decide, by decide,
      hspans (I := fun u => u.params.InRange) SpanParams.inRange_reset⟩
  have hcounters : CountersBounded State.reset :=
    ⟨by decide, by decide, by decide, by decide, by decide, hspans (I := fun u => u.postsDiscarded ≤ 65535) (by decide)⟩
  exact ⟨alertsSound_iff.mpr AlertUnit.sound_reset, routesSound_reset, ⟨by decide, .nil⟩, nofun, nofun, hsubjects, nofun,
    hspans SpanUnit.outputsSound_reset, hspans hposts, hspans hscheduler, hspans hjob, hspans hturnaround, hspans hroster, hidle,
    (noticeQueueSound_iff.mp NoticeQueue.sound_reset).1, held_reset.linkSound, hparams, hcounters⟩

/-- Settles O43: both are the hard reset, under the relay control that each leaves. -/
theorem powerOnAndResetLineHoldTheRelay : Obligations.PowerOnAndResetLineHoldTheRelay :=
  fun _ => ⟨rfl, rfl⟩

end Sys2Proof.Machine

/-! Host messages (R171): their bodies and envelope checks, and what READ, WRITE, POST and CANCEL answer. -/

namespace Sys2Proof.Machine

set_option Elab.async false -- one proof after another, as in the files under Laws/

/-! ## Bodies -/

/-- A message row offers the frame of its body. -/
theorem exec_of_messageBody {c : Instr} {kind seq orig : Byte} {fields : List Byte}
    (h : messageBody c = some (kind :: seq :: orig :: fields)) (s : State) : exec c s = .next (s.message (frame kind seq orig fields)) := by
  cases c with
  | read | write | post | cancelKey | cancelAll | spanEnable | spanQuiesce | spanOff | setRoute | setDefaultSpan | setRoster
  | setMissLimit | setPollMs | setRate | setAlertEnable | setAlertReporting | set | get | clear | credit | restart =>
    cases h
    rfl
  | hostFrame | gapFailure | txFrameEnd | powerOn | startUpEnd | rstnLow | rstnHigh | discardExpiry | lingerExpiry | settleExpiry
  | pollTimerExpiry | turnaroundComplete | commandFrameSent | responseStart | responseWindowExpiry | responseFrameEnd | backoffExpiry
  | lineFault | hrxByteReceived | responseCharacter37 | readyFirstByte => cases h

theorem unitAndLengthOk_iff (unit : Word16) (length : Byte) :
    unitAndLengthOk unit length = true ↔ unit.toNat < 4096 ∧ lengthOk length = true := by
  simp [unitAndLengthOk, lengthOk, and_assoc]

/-- Unit and length are read only within their ranges (Table 10-5). -/
theorem readReadFields_eq_none {unit : Word16} {length : Byte} (h : ¬ unitAndLengthOk unit length = true) (item : Byte) :
    readReadFields (highByte unit) (lowByte unit) item length = none := by
  rw [unitAndLengthOk_iff] at h
  unfold readReadFields
  by_cases hu : unit.toNat < 4096
  · rw [unit?_word hu]
    exact if_neg fun hl => h ⟨hu, hl⟩
  · rw [unit?_eq_none (Nat.le_of_not_lt hu)]

/-- Data are read only when their length is the body's (Table 10-5). -/
theorem readWriteFields_eq_none {unit : Word16} {length : Byte} {data : List Byte}
    (h : ¬ (unitAndLengthOk unit length = true ∧ data.length = length.toNat)) (item : Byte) :
    readWriteFields (bytes16 unit ++ [item, length] ++ data) = none := by
  rw [unitAndLengthOk_iff] at h
  by_cases hu : unit.toNat < 4096
  · simp only [bytes16, List.cons_append, List.nil_append, readWriteFields, unit?_word hu]
    exact if_neg fun ⟨hl, hd⟩ => h ⟨⟨hu, hl⟩, hd⟩
  · simp only [bytes16, List.cons_append, List.nil_append, readWriteFields, unit?_eq_none (Nat.le_of_not_lt hu)]

theorem byteOf_toNat (b : Byte) : byteOf b.toNat = b := by simp [byteOf]

/-- A byte below 8 is the byte of an originator. -/
theorem exists_byteOf {n : Nat} {b : Byte} (h : b.toNat < n) : ∃ i : Fin n, b = byteOf i := ⟨⟨b.toNat, h⟩, (byteOf_toNat b).symm⟩

/-- The parse of a CANCEL of form KEY fails with its operation, range or length check (Table 10-5). -/
theorem parseCancel_eq_none {op : Byte} {unit : Word16} {length : Byte} {data : List Byte} (o : Fin 8) (item : Byte)
    (h : ¬ (unitAndLengthOk unit length = true ∧ (op = 1#8 ∧ data = [] ∨ op = 2#8 ∧ data.length = length.toNat))) :
    parseCancel o ([0#8, op] ++ bytes16 unit ++ [item, length] ++ data) = none := by
  simp only [parseCancel, List.cons_append, List.nil_append, bytes16]
  rw [if_neg (by decide), if_pos trivial]
  by_cases h1 : op = 1#8
  · subst h1
    cases data with
    | nil =>
      show (readReadFields (highByte unit) (lowByte unit) item length).map _ = none
      rw [readReadFields_eq_none fun hok => h ⟨hok, .inl ⟨rfl, rfl⟩⟩]
      rfl
    | cons => rfl
  · by_cases h2 : op = 2#8
    · have := readWriteFields_eq_none (fun ⟨hok, hd⟩ => h ⟨hok, .inr ⟨h2, hd⟩⟩) item
      simp only [bytes16, List.cons_append, List.nil_append] at this
      rw [if_neg h1, if_pos h2, this]
      rfl
    · rw [if_neg h1, if_neg h2]

/-- R171: a message whose envelope checks fail is read as no message. -/
theorem message_eq_none_of_envelope {c : Instr} {kind seq orig : Byte} {fields : List Byte}
    (h : messageBody c = some (kind :: seq :: orig :: fields)) (he : envelopeOk c = false) : (frame kind seq orig fields).message = none := by
  by_cases ho : 8 ≤ orig.toNat
  · exact Frame.message_originator ho
  obtain ⟨o, rfl⟩ := exists_byteOf (Nat.lt_of_not_le ho)
  have hlt : (byteOf o).toNat < 8 := Nat.lt_of_not_le ho
  rw [Frame.message_eq, Option.map_eq_none_iff]
  cases c with
  | read seq orig unit item length flag =>
    cases h
    simp only [envelopeOk, hlt, decide_true, Bool.true_and, Bool.and_eq_false_iff, decide_eq_false_iff_not] at he
    show (if flag = 0#8 ∨ flag = 1#8 then (readReadFields (highByte unit) (lowByte unit) item length).map _ else none) = none
    split_ifs with hflag
    · obtain he | he := he
      · rw [readReadFields_eq_none (by simp [he])]
        rfl
      · obtain rfl | rfl := hflag <;> exact absurd (by decide) he
    · rfl
  | write seq orig unit item length data =>
    cases h
    simp only [envelopeOk, hlt, decide_true, Bool.true_and, Bool.and_eq_false_iff, beq_eq_false_iff_ne] at he
    show (readWriteFields (bytes16 unit ++ [item, length] ++ data)).map _ = none
    rw [readWriteFields_eq_none (by rintro ⟨h1, h2⟩; simp [h1, h2] at he)]
    rfl
  | post seq orig unit item length data =>
    cases h
    simp only [envelopeOk, hlt, decide_true, Bool.true_and, Bool.and_eq_false_iff, beq_eq_false_iff_ne] at he
    show (readWriteFields (bytes16 unit ++ [item, length] ++ data)).map _ = none
    rw [readWriteFields_eq_none (by rintro ⟨h1, h2⟩; simp [h1, h2] at he)]
    rfl
  | cancelKey seq orig op unit item length data =>
    cases h
    simp only [envelopeOk, hlt, decide_true, Bool.true_and, Bool.and_eq_false_iff, Bool.or_eq_false_iff, beq_eq_false_iff_ne] at he
    refine parseCancel_eq_none o item ?_
    rintro ⟨h1, ⟨rfl, rfl⟩ | ⟨rfl, h2⟩⟩
    · simp [h1] at he
    · simp [h1, h2] at he
  | spanEnable seq orig span | spanQuiesce seq orig span | spanOff seq orig span =>
    cases h
    simp only [envelopeOk, hlt, decide_true, Bool.true_and, decide_eq_false_iff_not] at he
    have : index? 4 span = none := index?_eq_none.mpr (Nat.le_of_not_lt he)
    simp [parseSpan, this]
  | clear seq orig conditions =>
    cases h
    simp only [envelopeOk, hlt, decide_true, Bool.true_and, decide_eq_false_iff_not] at he
    show (if number16 (highByte conditions) (lowByte conditions) < 1024 then _ else none) = none
    rw [number16_word, if_neg he]
  | credit seq orig grant =>
    cases h
    simp only [envelopeOk, hlt, decide_true, Bool.true_and, decide_eq_false_iff_not] at he
    exact if_neg he
  | cancelAll | setRoute | setDefaultSpan | setRoster | setMissLimit | setPollMs | setRate | setAlertEnable | setAlertReporting | set | get
  | restart =>
    cases h
    exact absurd (decide_eq_true hlt) (ne_true_of_eq_false he)
  | hostFrame | gapFailure | txFrameEnd | powerOn | startUpEnd | rstnLow | rstnHigh | discardExpiry | lingerExpiry | settleExpiry
  | pollTimerExpiry | turnaroundComplete | commandFrameSent | responseStart | responseWindowExpiry | responseFrameEnd | backoffExpiry
  | lineFault | hrxByteReceived | responseCharacter37 | readyFirstByte => cases h

/-- Settles O15, by what the parse of each row refuses. -/
theorem malformedMessageIsRefused : Obligations.MalformedMessageIsRefused := by
  intro c kind seq orig fields s hs hbody he
  rw [exec_of_messageBody hbody, State.message_malformed hs (message_eq_none_of_envelope hbody he)]
  rfl

/-! ## READ and WRITE -/

/-- Settles O16, by the state of the entry. -/
theorem repeatIsAnsweredFromItsEntry : Obligations.RepeatIsAnsweredFromItsEntry := by
  rintro seq k flag e s hs ⟨-, hkeys⟩ hk he rfl
  have hrequest (b : Bool) : s.request e.key b = s.answerRepeat e := by simp only [State.request, find_of_mem hkeys he]
  rw [exec_requestCommand hs hk, hrequest]
  cases hst : e.state with
  | queued | running | delivered => simp only [State.answerRepeat, hst] <;> rfl
  | cancelling =>
    simp only [State.answerRepeat, hst, setState_entries hkeys]
    rfl
  | held r ms =>
    simp only [State.answerRepeat, hst]
    split_ifs
    · simp only [free_entries hkeys]
      rfl
    · simp only [setState_entries hkeys]
      rfl

/-- Settles O17, by the route, the span's state and the room there is. -/
theorem newRequestIsJudgedInOrder : Obligations.NewRequestIsJudgedInOrder := by
  intro seq k flag s hs hk hnew
  rw [exec_requestCommand hs hk, State.request, find_eq_none.mpr hnew]
  dsimp only
  cases s.router.resolve k.unit with
  | none => rfl
  | some r =>
    obtain ⟨sp, node⟩ := r
    dsimp only
    cases ho : (s.span sp).state.isOpen with
    | true =>
      simp only [if_true, State.acceptOpen, Bool.true_eq_false, false_and, if_false]
      cases s.table.room sp (s.span sp).params.quota with
      | error reason => rfl
      | ok table =>
        simp only [List.length_eq_zero_iff]
        split_ifs <;> rfl
    | false =>
      simp only [Bool.false_eq_true, if_false, true_and, State.acceptClosed]
      cases (s.span sp).params.closedAnswer with
      | refuse => rfl
      | fail =>
        simp only [reduceCtorEq, if_false]
        cases s.table.room sp (s.span sp).params.quota <;> rfl

/-! ## Room -/

theorem reclaim_of_delivered {t : TransactionTable} (hkeys : UniqueKeys t.entries) {e : Entry} (h : e.state.isDelivered = true) :
    t.reclaim e = { t with entries := t.entries.filter fun x => x.key ≠ e.key } := by
  have hheld : e.state.isHeld = false := by cases hs : e.state <;> simp_all [EntryState.isDelivered, EntryState.isHeld]
  simp [TransactionTable.reclaim, free_entries hkeys, hheld]

theorem reclaim_of_held {t : TransactionTable} (hkeys : UniqueKeys t.entries) {e : Entry} (h : e.state.isHeld = true) :
    t.reclaim e = { t with
      entries := t.entries.filter fun x => x.key ≠ e.key, reclaimCount := min 65535 (t.reclaimCount + 1) } := by
  simp [TransactionTable.reclaim, free_entries hkeys, h, saturate, Config.counterTop]

/-- A reclaim among the entries that satisfy p (R12, R13, R14): the oldest DELIVERED, else the oldest replaceable HELD one. -/
theorem reclaimed_eq {t : TransactionTable} (hkeys : UniqueKeys t.entries) (p : Entry → Bool) (reason : RetryReason) :
    ((t.victim p).map t.reclaim).elim (Except.error reason) Except.ok =
      match t.entries.find? fun e => p e && e.state.isDelivered, t.entries.find? fun e => p e && e.state.isHeld && e.replaceable with
      | some v, _ => .ok { t with entries := t.entries.filter fun e => e.key ≠ v.key }
      | none, some v =>
        .ok { t with entries := t.entries.filter fun e => e.key ≠ v.key, reclaimCount := min 65535 (t.reclaimCount + 1) }
      | none, none => .error reason := by
  unfold TransactionTable.victim
  cases hd : t.entries.find? fun e => p e && e.state.isDelivered with
  | some v =>
    have h := List.find?_some hd
    simp only [Bool.and_eq_true] at h
    simp only [Option.map_some, Option.elim_some, reclaim_of_delivered hkeys h.2]
  | none =>
    cases hr : t.entries.find? fun e => p e && e.state.isHeld && e.replaceable with
    | some v =>
      have h := List.find?_some hr
      simp only [Bool.and_eq_true] at h
      simp only [Option.map_some, Option.elim_some, reclaim_of_held hkeys h.1.2]
    | none => rfl

theorem capacityStep_of_room {t : TransactionTable} (h : t.entries.length < 16) : t.capacityStep = some t := if_pos h

/-- R12: a reclaim for the quota leaves the table below its capacity. -/
theorem room_of_overQuota {t : TransactionTable} {sp : Fin 4} {quota : Nat} (hlength : t.entries.length ≤ 16)
    (h : quota ≤ t.countOn sp) :
    t.room sp quota = ((t.victim fun e => e.span == sp).map t.reclaim).elim (.error .spanQuota) .ok := by
  have hquota : t.quotaStep sp quota = (t.victim fun e => e.span == sp).map t.reclaim := if_neg (Nat.not_lt.mpr h)
  simp only [TransactionTable.room, hquota]
  cases hv : t.victim fun e => e.span == sp with
  | none => rfl
  | some e =>
    have := length_removeFirst (p := fun x => x.key == e.key) ⟨e, (victim_eq_some hv).1, by simp⟩
    have hroom : (t.reclaim e).entries.length < 16 := by rw [reclaim_entries]; omega
    simp only [Option.map_some, Option.elim_some, capacityStep_of_room hroom]

/-- R13: below the quota the table alone counts. -/
theorem room_of_underQuota {t : TransactionTable} {sp : Fin 4} {quota : Nat} (h : t.countOn sp < quota) :
    t.room sp quota =
      if t.entries.length < 16 then .ok t else ((t.victim fun _ => true).map t.reclaim).elim (.error .tableFull) .ok := by
  have hquota : t.quotaStep sp quota = some t := if_pos h
  simp only [TransactionTable.room, hquota]
  split_ifs with hroom
  · rw [capacityStep_of_room hroom]
  · rw [show t.capacityStep = (t.victim fun _ => true).map t.reclaim from if_neg hroom]
    cases t.victim fun _ => true <;> rfl

/-- Settles O18, by the quota: above it the entries of the span count, below it all. -/
theorem roomIsMadeByOneReclaim : Obligations.RoomIsMadeByOneReclaim := by
  intro t sp quota hlength hkeys overQuota among delivered replaceable
  by_cases hover : quota ≤ t.entries.countP fun e => e.span == sp
  · have hov : overQuota = true := decide_eq_true hover
    have hamong : among = fun e => e.span == sp := by funext e; simp [among, hov]
    rw [if_neg (by simp [hov]), room_of_overQuota hlength hover, reclaimed_eq hkeys]
    simp only [delivered, replaceable, hamong, hov, if_true] <;> rfl
  · have hov : overQuota = false := decide_eq_false hover
    have hamong : among = fun _ => true := by funext e; simp [among, hov]
    rw [room_of_underQuota (Nat.lt_of_not_le hover), reclaimed_eq hkeys]
    simp only [delivered, replaceable, hamong, hov, true_and, Bool.false_eq_true, if_false] <;> rfl

/-! ## POST -/

/-- Settles O19, by the route, the span's state and the depth of its queue. -/
theorem postIsAnsweredByItsSpan : Obligations.PostIsAnsweredByItsSpan := by
  intro seq o unit item data s hs h1 h2
  rw [exec_post hs seq o unit item h1 h2, State.acceptPost]
  cases s.router.resolve unit with
  | none => rfl
  | some r =>
    obtain ⟨sp, node⟩ := r
    by_cases hopen : (s.span sp).state.isOpen = true
    · by_cases hfull : 8 ≤ (s.span sp).posts.length
      · simp only [hopen, hfull, Config.postCapacity, if_true]
      · simp only [hopen, hfull, Config.postCapacity, if_true, if_false]
    · cases hanswer : (s.span sp).params.closedAnswer with
      | refuse => simp only [hopen, hanswer, Bool.false_eq_true, if_true, if_false]
      | fail =>
        simp only [hopen, hanswer, Bool.false_eq_true, reduceCtorEq, if_false]
        rfl

/-! ## CANCEL -/

/-- A cancel of some entries is the statement's own, entry by entry. -/
theorem TransactionTable.cancel_count (t : TransactionTable) (p : Entry → Bool) :
    t.cancelCount p = t.entries.countP fun e => p e && e.state != .cancelling := by
  refine List.countP_congr fun e _ => ?_
  have : e.cancelled.2 = (e.state != .cancelling) := by
    unfold Entry.cancelled
    cases e.state <;> rfl
  rw [this]

theorem countP_key_le_one {es : List Entry} (hkeys : UniqueKeys es) (k : Key) : es.countP (fun e => e.key == k) ≤ 1 := by
  have hpairwise : (es.filter fun e => e.key == k).Pairwise fun a b => a.key ≠ b.key := hkeys.filter _
  have hall (e : Entry) (he : e ∈ es.filter fun e => e.key == k) : e.key = k := by simpa using (List.mem_filter.mp he).2
  rw [List.countP_eq_length_filter]
  generalize es.filter (fun e => e.key == k) = found at hpairwise hall ⊢
  match found with
  | [] => exact Nat.zero_le 1
  | [_] => exact Nat.le_refl 1
  | a :: b :: _ => exact absurd ((hall a (by simp)).trans (hall b (by simp)).symm) (List.rel_of_pairwise_cons hpairwise (by simp))

/-- With unique keys, the entries of one key that satisfy p are one or none. -/
theorem countP_key {es : List Entry} (hkeys : UniqueKeys es) (k : Key) (p : Entry → Bool) :
    es.countP (fun e => e.key == k && p e) = if es.any fun e => e.key == k && p e then 1 else 0 := by
  have hle : es.countP (fun e => e.key == k && p e) ≤ 1 :=
    le_trans (List.countP_mono_left fun e _ h => (Bool.and_eq_true_iff.mp h).1) (countP_key_le_one hkeys k)
  split_ifs with h
  · have hpos : 0 < es.countP fun e => e.key == k && p e := by rwa [List.countP_pos_iff, ← List.any_eq_true]
    omega
  · rw [List.countP_eq_zero]
    intro e he hp
    exact h (List.any_eq_true.mpr ⟨e, he, hp⟩)

/-- Settles O20: form KEY names at most one entry, form ALL those of its originator. -/
theorem cancelReachesItsOriginatorsEntries : Obligations.CancelReachesItsOriginatorsEntries := by
  rintro seq s left hs ⟨-, hkeys⟩
  have hleft (e : Entry) : e.cancelled.1 = left e := by
    simp only [left, Entry.cancelled]
    cases e.state <;> rfl
  refine ⟨fun k hk => ?_, fun o => ?_⟩
  · rw [exec_cancelCommand hs hk]
    simp only [State.cancel, TransactionTable.cancel, TransactionTable.cancel_count, countP_key hkeys, hleft, beq_iff_eq]
    rfl
  · rw [exec_of_messageBody rfl, State.message_answered hs (o := o) (m := .cancelAll) (Frame.message_eq _ _ _ _) (by decide)]
    simp only [State.act, State.cancel, TransactionTable.cancel, TransactionTable.cancel_count, hleft, beq_iff_eq]
    rfl

end Sys2Proof.Machine

/-! SPAN messages (R87, R90, R92, R93), CLEAR (R141), CREDIT (R126) and RESTART (R155). -/

namespace Sys2Proof.Machine

set_option Elab.async false -- one proof after another, as in the files under Laws/

/-! ## SPAN ENABLE and SPAN QUIESCE -/

/-- Settles O21, by the state of the span. -/
theorem spanEnableByState : Obligations.SpanEnableByState := by
  intro seq o sp s hs
  dsimp only
  rw [exec_of_messageBody rfl, State.message_span hs seq o sp (a := .enable) rfl, State.spanAction, State.spanEnable]
  cases (s.span sp).state with
  | off | starting | active | quiescing | quiesced | faulted => rfl

/-- Settles O22, by the state of the span and whether it has a job. -/
theorem spanQuiesceByState : Obligations.SpanQuiesceByState := by
  intro seq o sp s hs
  dsimp only
  rw [exec_of_messageBody rfl, State.message_span hs seq o sp (a := .quiesce) rfl, State.spanAction, State.spanQuiesce]
  cases (s.span sp).state with
  | active =>
    simp only [State.updateSpan]
    cases (s.span sp).job with
    | none | some => rfl
  | off | starting | quiescing | quiesced | faulted => rfl

/-! ## Cleanup of a span's entries -/

/-- What a cleanup claim leaves of the table, in the words of the statements. -/
theorem cleanup_eq_cleaned (sp : Fin 4) (o : CompletionOutcome) (attempts discardMs : Nat) (es : List Entry) :
    cleanup sp o attempts discardMs es = cleaned sp o attempts discardMs es := by
  refine List.filterMap_congr fun e _ => ?_
  obtain ⟨key, replaceable, span, node, state, barrier⟩ := e
  cases state <;> simp [Entry.cleanedUp, bareRecord]

/-- R26: with no RUNNING entry on the span, the count of attempts is given to none. -/
theorem cleanup_of_not_running {sp : Fin 4} {es : List Entry} (h : ∀ e ∈ es, e.span = sp → e.state ≠ .running) (o : CompletionOutcome)
    (a b discardMs : Nat) : cleanup sp o a discardMs es = cleanup sp o b discardMs es := by
  refine List.filterMap_congr fun e he => ?_
  split_ifs with hsp
  · have hrunning := h e he (beq_iff_eq.mp hsp)
    unfold Entry.cleanedUp
    cases hst : e.state with
    | running => exact absurd hst hrunning
    | queued | cancelling | held | delivered => rfl
  · rfl

/-- R26, R78: the attempts begun for the job in progress are those of the RUNNING entry, since another job has none. -/
theorem cleanup_attemptsBegun {s : State} (h : SubjectsSound s) {sp : Fin 4} {j : Job} (hj : (s.span sp).job = some j)
    (o : CompletionOutcome) (discardMs : Nat) :
    cleanup sp o (s.span sp).attemptsBegun discardMs s.table.entries = cleaned sp o j.begun discardMs s.table.entries := by
  rw [← cleanup_eq_cleaned]
  simp only [SpanUnit.attemptsBegun, hj]
  split_ifs with hkind
  · rfl
  · refine cleanup_of_not_running (fun e he hsp hrunning => ?_) o _ _ _
    have hzero := h sp
    simp only [hj, if_neg hkind, List.countP_eq_zero] at hzero
    exact hzero e he (by simp [hsp, Entry.isSubject, hrunning, EntryState.isRunning])

theorem cleanup_attemptsBegun_none {s : State} {sp : Fin 4} (hj : (s.span sp).job = none) (o : CompletionOutcome) (discardMs : Nat) :
    cleanup sp o (s.span sp).attemptsBegun discardMs s.table.entries = cleaned sp o 0 discardMs s.table.entries := by
  simp only [← cleanup_eq_cleaned, SpanUnit.attemptsBegun, hj]

/-- R93: a closed span's entries are as a cleanup claim would leave them. -/
theorem cleanup_of_closed {s : State} (hbarriers : BarriersSound s) (hclosed : ClosedSpansHoldNoWork s) {sp : Fin 4}
    (h : (s.span sp).state.isOpen = false) (o : CompletionOutcome) (attempts discardMs : Nat) :
    cleanup sp o attempts discardMs s.table.entries = s.table.entries := by
  have hkept (e : Entry) (he : e ∈ s.table.entries) :
      (if e.span == sp then e.cleanedUp o attempts discardMs else some e) = some e := by
    split_ifs with hsp
    · have hrecord := hclosed e he (by rw [beq_iff_eq.mp hsp]; exact h)
      have hbarrier := (hbarriers e he).1
      obtain ⟨key, replaceable, span, node, state, barrier⟩ := e
      cases state with
      | held | delivered =>
        obtain rfl : barrier = 0 := by simpa using hbarrier
        rfl
      | queued | running | cancelling => exact absurd hrecord (by simp [EntryState.record])
    · rfl
  exact (List.filterMap_congr hkept).trans List.filterMap_some

/-! ## SPAN OFF -/

/-- What SPAN OFF and a line fault make of an open span. -/
theorem State.shutSpan_eq {s : State} {sp : Fin 4} {o : CompletionOutcome} {entries : List Entry}
    (h : cleanup sp o (s.span sp).attemptsBegun s.params.discardMs s.table.entries = entries) (target : SpanState) (scheduler : Scheduler) :
    s.shutSpan sp target scheduler o =
      ((s.setSpan sp ((s.span sp).shut target scheduler)).setEntries entries).raiseDiscarded sp (s.span sp).posts := by
  rw [← h]
  rfl

theorem State.spanOff_of_open {s : State} {sp : Fin 4} (h : (s.span sp).state.isOpen = true) :
    s.spanOff sp = (s.shutSpan sp .off resetScheduler .spanReset, .done 0) := by
  cases hstate : (s.span sp).state with
  | starting | active | quiescing | quiesced => simp only [State.spanOff, hstate]
  | off | faulted => exact absurd h (by simp [hstate, SpanState.isOpen])

/-- Settles O23: the cleanup counts the attempts of the job in progress, and the oldest post is the cause of the raise. -/
theorem spanOffOfAnOpenSpan : Obligations.SpanOffOfAnOpenSpan := by
  intro seq o sp s hs hopen u begun off hsubjects
  have hcleaned : cleanup sp .spanReset (s.span sp).attemptsBegun s.params.discardMs s.table.entries =
      cleaned sp .spanReset begun s.params.discardMs s.table.entries := by
    cases hj : (s.span sp).job with
    | none => simp only [cleanup_attemptsBegun_none hj, begun, u, hj]
    | some j => simp only [cleanup_attemptsBegun hsubjects hj, begun, u, hj]
  rw [exec_of_messageBody rfl, State.message_span hs seq o sp (a := .off) rfl, State.spanAction, State.spanOff_of_open hopen,
    State.shutSpan_eq hcleaned]
  dsimp only [u]
  cases hposts : (s.span sp).posts with
  | nil | cons => rfl

/-- Settles O24: the cleanup claim finds nothing to change. -/
theorem spanOffOfAClosedSpan : Obligations.SpanOffOfAClosedSpan := by
  intro seq o sp s hs hbarriers hclosed u done
  rw [exec_of_messageBody rfl, State.message_span hs seq o sp (a := .off) rfl, State.spanAction, State.spanOff]
  refine ⟨fun hoff => ?_, fun hfaulted => ?_⟩
  · simp only [show (s.span sp).state = .off from hoff]
    rfl
  · have hstate : (s.span sp).state = .faulted := hfaulted
    have hsame := cleanup_of_closed hbarriers hclosed (sp := sp) (by rw [hstate]; rfl) .spanReset 0 s.params.discardMs
    simp only [hstate, State.cleanupClaim, State.updateSpan, State.setSpan_table, State.setSpan_params, hsame]
    rfl

/-! ## CLEAR, CREDIT and RESTART -/

theorem conditionNumbers_eq : conditionNumbers = List.finRange 10 := by decide

theorem message_clear {list : Word16} (h : list.toNat < 1024) (seq : Byte) (o : Fin 8) :
    (frame 0x08#8 seq (byteOf o) (bytes16 list)).message = some (o, .clear list) := by
  rw [Frame.message_eq]
  simp [parseClear, bytes16, number16_word, h]

/-- Settles O33. -/
theorem clearClearsTheNamedConditions : Obligations.ClearClearsTheNamedConditions := by
  intro seq o list s hs
  refine ⟨fun h => ?_, fun h => ?_⟩
  · rw [exec_of_messageBody (fields := bytes16 list) rfl, State.message_answered hs (message_clear h seq o) (by simp)]
    simp only [State.act, AlertUnit.clear, AlertUnit.summary, conditionNumbers_eq]
    rfl
  · refine malformedMessageIsRefused _ _ seq (byteOf o) _ s hs rfl ?_
    simp [envelopeOk, h]

theorem message_credit {grant : Byte} (h : grant.toNat ≤ 8) (seq : Byte) (o : Fin 8) :
    (frame 0x09#8 seq (byteOf o) [grant]).message = some (o, .credit grant.toNat) := by
  rw [Frame.message_eq]
  simp [parseCredit, h]

/-- Settles O34. -/
theorem creditIsGrantedOrRevoked : Obligations.CreditIsGrantedOrRevoked := by
  intro seq o grant s hs
  refine ⟨fun h => ?_, fun h => ?_⟩
  · have hzero : grant.toNat = 0 ↔ grant = 0#8 := by rw [← BitVec.toNat_inj]; rfl
    rw [exec_of_messageBody rfl, State.message_answered hs (message_credit h seq o) (by simp)]
    simp only [State.act, State.grantCredit, hzero]
    rfl
  · refine malformedMessageIsRefused _ _ seq (byteOf o) _ s hs rfl ?_
    simp [envelopeOk, h]

/-- Settles O35: the Intake Queue is empty already. -/
theorem restartStartsDraining : Obligations.RestartStartsDraining := by
  intro seq o s hs
  have hintake : ({ s.link with intake := [], receiver := .hunting } : LinkInterface) = { s.link with receiver := .hunting } := by
    rw [← hs.2.1]
  rw [exec_of_messageBody rfl, State.message_restart hs (o := o) (by rw [Frame.message_eq]; rfl), State.startDraining, hintake]
  rfl

end Sys2Proof.Machine

/-! What a SET and a GET name (Tables 9-1 and 9-3) and the values a SET carries (Table 10-12), each read off once. -/

namespace Sys2Proof.Machine

set_option Elab.async false -- one proof after another, as in the files under Laws/

/-! ## Codes and indexes (R145, R147) -/

/-- An index in its range is read as it is written. -/
theorem ref?_byteOf {n : Nat} {code : Byte} {f : Fin n → Ref} (h : ∀ index, ref? code index = (index? n index).map f) (hn : n ≤ 256)
    (i : Fin n) : ref? code (byteOf i) = some (f i) := by
  rw [h, index?_byteOf hn]
  rfl

/-- An index outside its range is BAD_PARAMETER. -/
theorem ref?_eq_none {n : Nat} {code index : Byte} {f : Fin n → Ref} (h : ∀ index, ref? code index = (index? n index).map f)
    (hn : n ≤ index.toNat) : ref? code index = none := by
  rw [h, index?_eq_none.mpr hn]
  rfl

theorem eq_zero_of_toNat_lt_one {b : Byte} (h : b.toNat < 1) : b = 0#8 := BitVec.eq_of_toNat_eq (Nat.lt_one_iff.mp h)

/-- An index that is "0 only" is an index below 1. -/
theorem zeroOnly_eq (index : Byte) (r : Ref) : zeroOnly index r = (index? 1 index).map fun _ => r := by
  by_cases h : index = 0#8
  · subst h
    rfl
  · have : ¬ index.toNat < 1 := fun hlt => h (eq_zero_of_toNat_lt_one hlt)
    simp [zeroOnly, index?, h, this]

theorem index?_map_eq_none {n : Nat} {index : Byte} (h : n ≤ index.toNat) (f : Fin n → Ref) : (index? n index).map f = none := by
  rw [index?_eq_none.mpr h]
  rfl

/-- R145: a code has as many indexes as Tables 9-1 and 9-3 give it. -/
theorem ref?_eq_none_of_indexCount {code index : Byte} (h : indexCount code ≤ index.toNat) : ref? code index = none := by
  have hcode : byteOf code.toNat = code := byteOf_toNat code
  unfold ref?
  simp only [zeroOnly_eq]
  split
  case h_37 => rfl
  all_goals
    next hc =>
      rw [hc] at hcode
      subst hcode
      exact index?_map_eq_none h _

/-- R147: a code from 40h up names no parameter. -/
theorem ref?_ne_param {code : Byte} (h : 0x40 ≤ code.toNat) (index : Byte) (p : ParamRef) : ref? code index ≠ some (.param p) := by
  unfold ref?
  simp only [zeroOnly_eq]
  split
  case h_37 => exact nofun
  all_goals simp only [ne_eq, Option.map_eq_some_iff, reduceCtorEq, and_false, exists_false, not_false_eq_true]
  all_goals omega

/-! ## Numbers (0.5, Table 10-12) -/

theorem number16_eq_valueNumber (b1 b0 : Byte) : number16 b1 b0 = valueNumber [b1, b0] := by simp [number16, valueNumber]

theorem valueNumber_singleton (b : Byte) : valueNumber [b] = b.toNat := by simp [valueNumber]

theorem number1?_eq_some_iff {low high n : Nat} {value : List Byte} :
    number1? low high value = some n ↔ ValueRange.Takes { width := 1, low, high } value ∧ valueNumber value = n := by
  match value with
  | [] => simp [number1?, ValueRange.Takes]
  | [b] => simp [number1?, ValueRange.Takes, valueNumber_singleton]
  | _ :: _ :: _ => simp [number1?, ValueRange.Takes]

theorem number2?_eq_some_iff {low high n : Nat} {value : List Byte} :
    number2? low high value = some n ↔ ValueRange.Takes { width := 2, low, high } value ∧ valueNumber value = n := by
  match value with
  | [] => simp [number2?, ValueRange.Takes]
  | [_] => simp [number2?, ValueRange.Takes]
  | [b1, b0] => simp [number2?, ValueRange.Takes, number16_eq_valueNumber]
  | _ :: _ :: _ :: _ => simp [number2?, ValueRange.Takes]

theorem code01?_eq_some_iff {b : Bool} {value : List Byte} : code01? value = some b ↔ value = [codeBit b] := by
  match value with
  | [] => simp [code01?]
  | [c] =>
    by_cases h0 : c = 0#8
    · cases b <;> simp [code01?, codeBit, h0]
    · by_cases h1 : c = 1#8
      · cases b <;> simp [code01?, codeBit, h1]
      · cases b <;> simp [code01?, codeBit, h0, h1]
  | _ :: _ :: _ => simp [code01?]

/-- A two-valued code takes the bytes 0 and 1 alone. -/
theorem takes_code_iff {value : List Byte} :
    ValueRange.Takes { width := 1, low := 0, high := 1 } value ↔ ∃ b, value = [codeBit b] := by
  match value with
  | [] => simp [ValueRange.Takes]
  | [c] =>
    simp only [ValueRange.Takes, valueNumber_singleton, List.length_singleton, true_and, Nat.zero_le, List.cons.injEq, and_true,
      Bool.exists_bool, codeBit, ← BitVec.toNat_inj]
    simp
    omega
  | _ :: _ :: _ => simp [ValueRange.Takes]

theorem rate?_eq_some_iff {r : Rate} {value : List Byte} : rate? value = some r ↔ value.length = 2 ∧ valueNumber value = r.number := by
  match value with
  | [] => simp [rate?]
  | [_] => simp [rate?]
  | [b1, b0] =>
    simp only [rate?, number16_eq_valueNumber, List.length_cons, List.length_nil, true_and]
    split <;> cases r <;> simp_all [Rate.number]
  | _ :: _ :: _ :: _ => simp [rate?]

/-- A number is written as the bytes it is read from. -/
theorem byteOf_valueNumber {value : List Byte} (h : value.length = 1) : [byteOf (valueNumber value)] = value := by
  obtain ⟨b, rfl⟩ := List.length_eq_one_iff.mp h
  rw [valueNumber_singleton, byteOf_toNat]

theorem bytesOf16_valueNumber {value : List Byte} (h : value.length = 2) : bytesOf16 (valueNumber value) = value := by
  obtain ⟨b1, b0, rfl⟩ := List.length_eq_two.mp h
  have h1 := b1.isLt
  have h0 := b0.isLt
  simp only [← number16_eq_valueNumber, number16, bytesOf16, bytes16, highByte, lowByte, List.cons.injEq, and_true]
  constructor <;> apply BitVec.eq_of_toNat_eq <;> simp <;> omega

theorem eq_none_of_not {α : Type} {o : Option α} {P : α → Prop} (h : ∀ a, o = some a → P a) (hnot : ∀ a, ¬ P a) : o = none :=
  Option.eq_none_iff_forall_ne_some.mpr fun a ha => hnot a (h a ha)

end Sys2Proof.Machine

/-! SET of routing, rosters, miss limits, poll intervals and rates (R105 to R107, R113, R117, R55, R62). -/

namespace Sys2Proof.Machine

set_option Elab.async false -- one proof after another, as in the files under Laws/

/-! ## The outcomes of a SET (R147) -/

section
variable {c : Instr} {seq code index : Byte} {o : Fin 8} {value : List Byte} {s : State}

/-- A SET row hands the Parameter Store its code, index and value. -/
theorem exec_setParameter (hs : Ready s) (hbody : messageBody c = some (0x06#8 :: seq :: byteOf o :: code :: index :: value)) :
    exec c s = .next ((s.setParameter code index value).1.replied (replyTo seq (byteOf o) (s.setParameter code index value).2)) := by
  rw [exec_of_messageBody hbody]
  exact congrArg _ (State.message_set hs seq o code index value)

theorem exec_badParameter (hs : Ready s) (hbody : messageBody c = some (0x06#8 :: seq :: byteOf o :: code :: index :: value))
    (h : ref? code index = none) : exec c s = .next (s.replied (replyTo seq (byteOf o) (.refused .badParameter))) := by
  rw [exec_setParameter hs hbody]
  simp only [State.setParameter, h]

theorem exec_badValue (hs : Ready s) (hbody : messageBody c = some (0x06#8 :: seq :: byteOf o :: code :: index :: value))
    {p : ParamRef} (href : ref? code index = some (.param p)) (h : requestedChange? s.router p value = none) :
    exec c s = .next (s.replied (replyTo seq (byteOf o) (.refused .badValue))) := by
  rw [exec_setParameter hs hbody]
  simp only [State.setParameter, href, h]

theorem exec_done (hs : Ready s) (hbody : messageBody c = some (0x06#8 :: seq :: byteOf o :: code :: index :: value))
    {p : ParamRef} (href : ref? code index = some (.param p)) {change : Change} (h : requestedChange? s.router p value = some change)
    (hstate : s.stateAllows change = true) : exec c s = .next ((s.apply change).replied (replyTo seq (byteOf o) (.done 0))) := by
  rw [exec_setParameter hs hbody]
  simp only [State.setParameter, href, h, hstate, if_true]

theorem exec_wrongState (hs : Ready s) (hbody : messageBody c = some (0x06#8 :: seq :: byteOf o :: code :: index :: value))
    {p : ParamRef} (href : ref? code index = some (.param p)) {change : Change} (h : requestedChange? s.router p value = some change)
    (hstate : s.stateAllows change = false) : exec c s = .next (s.replied (replyTo seq (byteOf o) (.refused .wrongState))) := by
  rw [exec_setParameter hs hbody]
  simp only [State.setParameter, href, h, hstate, Bool.false_eq_true, if_false]

end

/-! ## ROUTE and DEFAULT_SPAN -/

theorem window?_eq_empty_iff {value : List Byte} : window? value = some none ↔ value = [0#8] := by
  unfold window?
  split
  · simp
  · split_ifs <;> simp
  · next h1 h2 =>
    simp only [reduceCtorEq, false_iff]
    rintro rfl
    exact h1 _ rfl

/-- A byte is an index below n exactly when it is the index's byte. -/
theorem index?_eq_some_iff {n : Nat} (hn : n ≤ 256) {b : Byte} {i : Fin n} : index? n b = some i ↔ b = byteOf i := by
  refine ⟨fun h => ?_, fun h => h ▸ index?_byteOf hn i⟩
  unfold index? at h
  split_ifs at h
  cases h
  exact (byteOf_toNat b).symm

theorem window?_eq_window_iff {value : List Byte} {w : Window} :
    window? value = some (some w) ↔
      ∃ (f1 f0 l1 l0 : Byte) (sp : Fin 4) (base : Byte), value = [1#8, f1, f0, l1, l0, byteOf sp, base] ∧
        w = { first := valueNumber [f1, f0], last := valueNumber [l1, l0], span := sp, base := base.toNat } := by
  constructor
  · intro h
    unfold window? at h
    split at h
    · split_ifs at h
      simp at h
    · next mark f1 f0 l1 l0 span base =>
      split_ifs at h with hmark
      obtain ⟨sp, hsp, hw⟩ := Option.map_eq_some_iff.mp h
      rw [index?_eq_some_iff (by decide)] at hsp
      simp only [Option.some.injEq, number16_eq_valueNumber] at hw
      exact ⟨f1, f0, l1, l0, sp, base, by rw [hmark, hsp], hw.symm⟩
    · cases h
  · rintro ⟨f1, f0, l1, l0, sp, base, rfl, rfl⟩
    simp [window?, index?_byteOf, number16_eq_valueNumber]

/-- R106: the window that a ROUTE value asks for has passed the checks of Table 6-3. -/
theorem requestedChange?_route_iff {r : Router} {i : Fin 8} {value : List Byte} {c : Change} :
    requestedChange? r (.route i) value = some c ↔ ∃ w, c = .route i w ∧ RouteValue r i value w := by
  unfold RouteValue
  cases hw : window? value with
  | none =>
    simp only [requestedChange?, hw, reduceCtorEq, false_iff]
    rintro ⟨w, -, ⟨hvalue, -⟩ | ⟨f1, f0, l1, l0, sp, base, hvalue, -⟩⟩
    · rw [window?_eq_empty_iff.mpr hvalue] at hw
      cases hw
    · rw [window?_eq_window_iff.mpr ⟨f1, f0, l1, l0, sp, base, hvalue, rfl⟩] at hw
      cases hw
  | some window =>
    cases window with
    | none =>
      obtain rfl := window?_eq_empty_iff.mp hw
      simp only [requestedChange?, hw, Option.some.injEq]
      constructor
      · rintro rfl
        exact ⟨none, rfl, .inl ⟨trivial, rfl⟩⟩
      · rintro ⟨w, rfl, ⟨-, rfl⟩ | ⟨_, _, _, _, _, _, hvalue, -⟩⟩
        · rfl
        · simp at hvalue
    | some v =>
      obtain ⟨f1, f0, l1, l0, sp, base, rfl, rfl⟩ := window?_eq_window_iff.mp hw
      simp only [requestedChange?, hw]
      constructor
      · intro h
        split_ifs at h with hok
        cases h
        rw [Bool.and_eq_true, Window.inRange_iff, Router.clearOf_iff] at hok
        obtain ⟨⟨hfirst, hlast, hbase, hnode⟩, hclear⟩ := hok
        exact ⟨_, rfl, .inr ⟨f1, f0, l1, l0, sp, base, rfl, rfl, hfirst, hlast, hbase, hnode, hclear⟩⟩
      · rintro ⟨w, rfl, ⟨hvalue, -⟩ | ⟨_, _, _, _, sp', _, hvalue, rfl, hok⟩⟩
        · simp at hvalue
        · simp only [List.cons.injEq, and_true, true_and] at hvalue
          obtain ⟨rfl, rfl, rfl, rfl, hsp, rfl⟩ := hvalue
          obtain rfl : sp = sp' := Option.some.inj ((index?_byteOf (by decide) sp).symm.trans ((index?_eq_some_iff (by decide)).mpr hsp))
          obtain ⟨hfirst, hlast, hbase, hnode, hclear⟩ := hok
          rw [if_pos]
          rw [Bool.and_eq_true, Window.inRange_iff, Router.clearOf_iff]
          exact ⟨⟨hfirst, hlast, hbase, hnode⟩, hclear⟩

theorem defaultSpan?_eq_some_iff {value : List Byte} {d : Option (Fin 4)} :
    defaultSpan? value = some d ↔ (value = [0xFF#8] ∧ d = none) ∨ ∃ sp : Fin 4, value = [byteOf sp] ∧ d = some sp := by
  have hspan (sp : Fin 4) : byteOf sp ≠ 0xFF#8 := by revert sp; decide
  match value with
  | [] => simp [defaultSpan?]
  | [b] =>
    by_cases hb : b = 0xFF#8
    · subst hb
      simp [defaultSpan?, fun sp => (hspan sp).symm, eq_comm]
    · simp only [defaultSpan?, hb, if_false, Option.map_eq_some_iff, index?_eq_some_iff (by decide : 4 ≤ 256), List.cons.injEq, and_true,
        false_and, false_or]
      simp [eq_comm]
  | _ :: _ :: _ => simp [defaultSpan?]

/-- Settles O25, by what a ROUTE value and a DEFAULT_SPAN value ask for. -/
theorem setOfRouting : Obligations.SetOfRouting := by
  intro seq o index value s hs done badValue badParameter
  refine ⟨fun i hi => ?_, fun h => exec_badParameter hs rfl (ref?_eq_none_of_indexCount h), fun hzero => ?_,
    fun h => exec_badParameter hs rfl (if_neg h)⟩
  · subst hi
    have href : ref? 0x0F#8 (byteOf i) = some (.param (.route i)) :=
      ref?_byteOf (f := fun i => .param (.route i)) (fun _ => rfl) (by decide) i
    refine ⟨fun w hw => exec_done hs rfl href (requestedChange?_route_iff.mpr ⟨w, rfl, hw⟩) rfl, fun h => ?_⟩
    refine exec_badValue (value := value) hs rfl href (eq_none_of_not (fun c => requestedChange?_route_iff.mp) ?_)
    rintro c ⟨w, -, hw⟩
    exact h ⟨w, hw⟩
  · subst hzero
    have href : ref? 0x10#8 0#8 = some (.param .defaultSpan) := rfl
    have hchange {d : Option (Fin 4)} (h : defaultSpan? value = some d) :
        requestedChange? s.router .defaultSpan value = some (.defaultSpan d) := congrArg (Option.map _) h
    refine ⟨fun sp hv => exec_done hs rfl href (hchange (defaultSpan?_eq_some_iff.mpr (.inr ⟨sp, hv, rfl⟩))) rfl,
      fun hv => exec_done hs rfl href (hchange (defaultSpan?_eq_some_iff.mpr (.inl ⟨hv, rfl⟩))) rfl, fun hspan hnone => ?_⟩
    refine exec_badValue (value := value) hs rfl href (Option.map_eq_none_iff.mpr (eq_none_of_not (fun d => defaultSpan?_eq_some_iff.mp) ?_))
    rintro d (⟨hv, -⟩ | ⟨sp, hv, -⟩)
    · exact hnone hv
    · exact hspan sp hv

end Sys2Proof.Machine

/-! SET of ROSTER, MISS_LIMIT, POLL_MS and RATE (R113, R117, R55, R62). -/

namespace Sys2Proof.Machine

set_option Elab.async false -- one proof after another, as in the files under Laws/

/-! ## ROSTER -/

/-- R113, R180: a member count, then so many node addresses. -/
def MembersValue (value addresses : List Byte) : Prop :=
  ∃ n : Byte, value = n :: addresses ∧ addresses.length = n.toNat ∧ n.toNat ≤ 15 ∧ ∀ a ∈ addresses, 1 ≤ a.toNat ∧ a.toNat ≤ 15

theorem members?_eq_some_iff {value : List Byte} {members : List Nat} :
    members? value = some members ↔ ∃ addresses, MembersValue value addresses ∧ members = addresses.map fun a => a.toNat := by
  cases value with
  | nil => simp [members?, MembersValue]
  | cons n addresses =>
    have hchecks : (n.toNat ≤ 15 ∧ addresses.length = n.toNat ∧
        addresses.all (fun a => decide (1 ≤ a.toNat) && decide (a.toNat ≤ 15)) = true) ↔ MembersValue (n :: addresses) addresses := by
      simp only [MembersValue, List.cons.injEq, and_true, exists_eq_left', List.all_eq_true, Bool.and_eq_true, decide_eq_true_eq]
      tauto
    have hsame {as : List Byte} (h : MembersValue (n :: addresses) as) : addresses = as := by
      obtain ⟨m, hm, -⟩ := h
      exact (List.cons.inj hm).2
    rw [members?]
    constructor
    · intro h
      split_ifs at h with hok
      exact ⟨addresses, hchecks.mp hok, (Option.some.inj h).symm⟩
    · rintro ⟨as, hok, rfl⟩
      obtain rfl := hsame hok
      exact if_pos (hchecks.mpr hok)

/-- R113: the membership that a SET leaves, in ascending order and once each. -/
theorem newRoster_eq (roster : List NodeRecord) (addresses : List Byte) :
    newRoster roster (addresses.map fun a => a.toNat) =
      ((List.range' 1 15).filter fun a => byteOf a ∈ addresses).map fun a =>
        (roster.find? fun r => r.address = a).getD { address := a, status := .unseen, misses := 0 } := by
  have hmember (a : Nat) (ha : a ∈ List.range' 1 15) : (addresses.map fun a => a.toNat).contains a = decide (byteOf a ∈ addresses) := by
    have ha' : a < 256 := by
      have := List.mem_range'_1.mp ha
      omega
    rw [Bool.eq_iff_iff, List.contains_iff_mem, List.mem_map, decide_eq_true_eq]
    constructor
    · rintro ⟨b, hb, rfl⟩
      rwa [byteOf_toNat]
    · exact fun h => ⟨byteOf a, h, toNat_byteOf_of_lt ha'⟩
  rw [newRoster, show nodeAddresses = List.range' 1 15 by decide, List.filter_congr hmember]
  rfl

theorem newRoster_eq_nil_iff {addresses : List Byte} (h : ∀ a ∈ addresses, 1 ≤ a.toNat ∧ a.toNat ≤ 15) (roster : List NodeRecord) :
    newRoster roster (addresses.map fun a => a.toNat) = [] ↔ addresses = [] := by
  rw [newRoster_eq, List.map_eq_nil_iff]
  constructor
  · intro hnone
    refine List.eq_nil_iff_forall_not_mem.mpr fun a ha => ?_
    have : a.toNat ∈ (List.range' 1 15).filter fun n => decide (byteOf n ∈ addresses) := by
      obtain ⟨hlow, hhigh⟩ := h a ha
      refine List.mem_filter.mpr ⟨List.mem_range'_1.mpr ⟨hlow, by omega⟩, ?_⟩
      rwa [byteOf_toNat, decide_eq_true_eq]
    rw [hnone] at this
    cases this
  · rintro rfl
    simp

theorem ref?_roster (sp : Fin 4) : ref? 0x0D#8 (byteOf sp) = some (.param (.roster sp)) :=
  ref?_byteOf (f := fun i => .param (.roster i)) (fun _ => rfl) (by decide) sp

/-- Settles O26. -/
theorem setOfRoster : Obligations.SetOfRoster := by
  intro seq o sp index count addresses value s hs
  refine ⟨?_, fun h => ?_,
    fun h => exec_badParameter hs rfl (ref?_eq_none_of_indexCount h)⟩
  · intro hlength hcount haddresses u record members changed
    have hvalue : requestedChange? s.router (.roster sp) (count :: addresses) = some (.roster sp (addresses.map fun a => a.toNat)) :=
      congrArg (Option.map _) (members?_eq_some_iff.mpr ⟨addresses, ⟨count, rfl, hlength, hcount, haddresses⟩, rfl⟩)
    have hrecord : record = fun a => (u.roster.find? fun r => r.address = a).getD { address := a, status := .unseen, misses := 0 } := by
      funext a
      cases h : u.roster.find? fun r => r.address = a <;> simp only [record, h, Option.getD_none, Option.getD_some]
    have hroster : newRoster (s.span sp).roster (addresses.map fun a => a.toNat) = members.map record := by
      rw [newRoster_eq, hrecord]
    have hnil : members.map record ≠ [] ↔ addresses ≠ [] := by rw [← hroster, ne_eq, newRoster_eq_nil_iff haddresses]
    rw [exec_done hs rfl (ref?_roster sp) hvalue rfl]
    simp only [State.apply, State.setRoster, State.updateSpan, hroster, State.setSpan_span_self, hnil]
    rfl
  · refine exec_badValue (value := value) hs rfl (ref?_roster sp) (Option.map_eq_none_iff.mpr (eq_none_of_not (fun _ => members?_eq_some_iff.mp) ?_))
    rintro members ⟨as, ⟨n, hvalue, hlength, hcount, has⟩, -⟩
    exact h n as hvalue ⟨hlength, hcount, has⟩

/-! ## MISS_LIMIT -/

theorem ref?_missLimit (sp : Fin 4) : ref? 0x0E#8 (byteOf sp) = some (.param (.missLimit sp)) :=
  ref?_byteOf (f := fun i => .param (.missLimit i)) (fun _ => rfl) (by decide) sp

/-- Settles O27. -/
theorem setOfMissLimit : Obligations.SetOfMissLimit := by
  intro seq o sp index limit value s hs
  refine ⟨?_, fun h => ?_, fun h => exec_badParameter hs rfl (ref?_eq_none_of_indexCount h)⟩
  · intro hlow hhigh u clamped lost
    have hvalue : requestedChange? s.router (.missLimit sp) [limit] = some (.missLimit sp limit.toNat) :=
      congrArg (Option.map _) (if_pos ⟨hlow, hhigh⟩)
    have hlost : newlyLost (s.span sp).roster limit.toNat = lost := by
      simp only [newlyLost, lost, u, Bool.decide_and, ne_eq, decide_not]
      rfl
    rw [exec_done hs rfl (ref?_missLimit sp) hvalue rfl]
    simp only [State.apply, State.setMissLimit, hlost]
    rfl
  · refine exec_badValue (value := value) hs rfl (ref?_missLimit sp) (Option.map_eq_none_iff.mpr (eq_none_of_not (fun _ => number1?_eq_some_iff.mp) ?_))
    rintro _ ⟨⟨hlength, hlow, hhigh⟩, rfl⟩
    obtain ⟨b, rfl⟩ := List.length_eq_one_iff.mp hlength
    rw [valueNumber_singleton] at hlow hhigh
    exact h b rfl ⟨hlow, hhigh⟩

/-! ## POLL_MS and RATE -/

theorem ref?_pollMs (sp : Fin 4) : ref? 0x0C#8 (byteOf sp) = some (.param (.pollMs sp)) :=
  ref?_byteOf (f := fun i => .param (.pollMs i)) (fun _ => rfl) (by decide) sp

theorem ref?_rate (sp : Fin 4) : ref? 0x07#8 (byteOf sp) = some (.param (.rate sp)) :=
  ref?_byteOf (f := fun i => .param (.rate i)) (fun _ => rfl) (by decide) sp

theorem requestedChange?_rate {r : Router} {sp : Fin 4} {rate : Rate} {value : List Byte} (hlength : value.length = 2)
    (h : valueNumber value = rate.number) : requestedChange? r (.rate sp) value = some (.rate sp rate) :=
  congrArg (Option.map _) (rate?_eq_some_iff.mpr ⟨hlength, h⟩)

theorem SpanState.rateFixed_iff {state : SpanState} :
    state.rateFixed = true ↔ state = .starting ∨ state = .active ∨ state = .quiescing := by
  cases state <;> simp [SpanState.rateFixed]

/-- Settles O28. -/
theorem setOfPollIntervalAndRate : Obligations.SetOfPollIntervalAndRate := by
  intro seq o sp index b1 b0 value s hs u n done badValue badParameter timer
  refine ⟨fun h => ?_, fun h => ?_, fun h => exec_badParameter hs rfl (ref?_eq_none_of_indexCount h), fun rate h => ?_, fun h => ?_,
    fun h => exec_badParameter hs rfl (ref?_eq_none_of_indexCount h)⟩
  · have hvalue : requestedChange? s.router (.pollMs sp) [b1, b0] = some (.pollMs sp n) :=
      congrArg (Option.map _) (number2?_eq_some_iff.mpr ⟨⟨rfl, Nat.zero_le _, h⟩, rfl⟩)
    exact exec_done hs rfl (ref?_pollMs sp) hvalue rfl
  · refine exec_badValue (value := value) hs rfl (ref?_pollMs sp) (Option.map_eq_none_iff.mpr (eq_none_of_not (fun _ => number2?_eq_some_iff.mp) ?_))
    rintro _ ⟨⟨hlength, -, hhigh⟩, -⟩
    exact h.elim (fun hne => hne hlength) (Nat.not_lt.mpr hhigh)
  · have hvalue : requestedChange? s.router (.rate sp) [b1, b0] = some (.rate sp rate) := by
      refine requestedChange?_rate rfl ?_
      rcases h with ⟨rfl, h⟩ | ⟨rfl, h⟩ | ⟨rfl, h⟩ | ⟨rfl, h⟩ <;> exact h
    split_ifs with hfixed
    · refine exec_wrongState hs rfl (ref?_rate sp) hvalue ?_
      rw [State.stateAllows, SpanState.rateFixed_iff.mpr hfixed, Bool.not_true]
    · refine exec_done hs rfl (ref?_rate sp) hvalue ?_
      simp only [State.stateAllows, Bool.not_eq_true', Bool.eq_false_iff]
      exact fun hrate => hfixed (SpanState.rateFixed_iff.mp hrate)
  · refine exec_badValue (value := value) hs rfl (ref?_rate sp) (Option.map_eq_none_iff.mpr (eq_none_of_not (fun _ => rate?_eq_some_iff.mp) ?_))
    rintro rate ⟨hlength, hnumber⟩
    refine h.elim (fun hne => hne hlength) fun hnot => hnot ?_
    rw [hnumber]
    cases rate <;> simp [Rate.number]

end Sys2Proof.Machine

/-! SET of the alert parameters (R135 to R138) and of the parameters that it replaces alone (R147). -/

namespace Sys2Proof.Machine

set_option Elab.async false -- one proof after another, as in the files under Laws/

/-! ## ALERT_ENABLE and ALERT_REPORTING -/

/-- Nothing becomes set where no condition changes its mark. -/
theorem newlySetEnabled_eq_false {old new : AlertUnit} (h : ∀ n, (new.condition n).set = (old.condition n).set) :
    newlySetEnabled old new = false := by
  rw [Bool.eq_false_iff]
  intro hnew
  obtain ⟨-, n, hclear, hset, -⟩ := (newlySetEnabled_iff _ _).mp hnew
  rw [h n, hclear] at hset
  cases hset

/-- R135: a change of an enable makes nothing newly set. -/
theorem AlertUnit.setEnable_eq (a : AlertUnit) (n : Fin 10) (on : Bool) :
    a.setEnable n on =
      { a.setCondition n { a.condition n with enable := on } with
        attn := (a.setCondition n { a.condition n with enable := on }).summary
        due := a.due || (!a.summary && (a.setCondition n { a.condition n with enable := on }).summary) } := by
  have hsame (m : Fin 10) : ((a.setCondition n { a.condition n with enable := on }).condition m).set = (a.condition m).set := by
    rw [setCondition_condition]
    split_ifs with h
    · rw [h]
    · rfl
  simp only [setEnable, reevaluate, newlySetEnabled_eq_false hsame, Bool.or_false, setCondition_due]

/-- R135: reporting that goes ON makes nothing newly set. -/
theorem AlertUnit.setReporting_on (a : AlertUnit) :
    a.setReporting true =
      { a with
        reporting := true
        attn := (List.finRange 10).any fun m => (a.condition m).set && (a.condition m).enable
        due := a.due || (!a.reporting && (List.finRange 10).any fun m => (a.condition m).set && (a.condition m).enable) } := by
  have hdue (reporting enabled : Bool) : (!(reporting && enabled) && enabled) = (!reporting && enabled) := by
    cases reporting <;> cases enabled <;> rfl
  have hsummary : ({ a with reporting := true } : AlertUnit).summary =
      (true && (List.finRange 10).any fun m => (a.condition m).set && (a.condition m).enable) := by rw [← conditionNumbers_eq]; rfl
  have hold : a.summary = (a.reporting && (List.finRange 10).any fun m => (a.condition m).set && (a.condition m).enable) := by
    rw [← conditionNumbers_eq]
    rfl
  have hsame : newlySetEnabled a { a with reporting := true } = false := newlySetEnabled_eq_false fun _ => rfl
  simp only [setReporting, if_true, reevaluate, hsame, Bool.or_false, hsummary, hold, hdue, Bool.true_and]

theorem ref?_alertEnable (n : Fin 10) : ref? 0x12#8 (byteOf n) = some (.param (.alertEnable n)) :=
  ref?_byteOf (f := fun i => .param (.alertEnable i)) (fun _ => rfl) (by decide) n

/-- Settles O29. -/
theorem setOfAlertParameters : Obligations.SetOfAlertParameters := by
  intro seq o n on index value s hs done badValue badParameter code enabled
  have hcode : code01? [code] = some on := code01?_eq_some_iff.mpr rfl
  refine ⟨?_, ?_, fun h0 h1 => ?_, fun h => exec_badParameter hs rfl (ref?_eq_none_of_indexCount h),
    fun h => exec_badParameter hs rfl (if_neg h)⟩
  · have hvalue : requestedChange? s.router (.alertEnable n) [code] = some (.alertEnable n on) := congrArg (Option.map _) hcode
    rw [exec_done hs rfl (ref?_alertEnable n) hvalue rfl, State.apply, AlertUnit.setEnable_eq]
  · have hvalue : requestedChange? s.router .alertReporting [code] = some (.alertReporting on) := congrArg (Option.map _) hcode
    rw [exec_done hs rfl (p := .alertReporting) rfl hvalue rfl, State.apply]
    cases on with
    | true => rw [AlertUnit.setReporting_on, if_pos rfl]
    | false => rfl
  · have hnone : code01? value = none := by
      refine eq_none_of_not (fun b => code01?_eq_some_iff.mp) fun b hb => ?_
      cases b with
      | false => exact h0 hb
      | true => exact h1 hb
    exact ⟨exec_badValue (value := value) hs rfl (ref?_alertEnable n) (Option.map_eq_none_iff.mpr hnone),
      exec_badValue (value := value) hs rfl (p := .alertReporting) rfl (Option.map_eq_none_iff.mpr hnone)⟩

/-! ## The other parameters -/

/-- What a SET of a parameter that it replaces alone finds: the parameter that its code and index name, and what it asks for. -/
structure PlainSet (s : State) (code index : Byte) (value : List Byte) (range : ValueRange) (p : ParamRef) : Prop where
  ref : ref? code index = some (.param p)
  takes : range.Takes value → ∃ c, requestedChange? s.router p value = some c ∧ s.stateAllows c = true ∧
    s.apply c = s.withParameter code index (valueNumber value)
  refused : ¬ range.Takes value → requestedChange? s.router p value = none

section
variable {s : State} {code index : Byte} {value : List Byte} {low high : Nat} {p : ParamRef}

/-- A parameter whose value is a number in one byte. -/
theorem PlainSet.of_number1 (f : Nat → Change) (ref : ref? code index = some (.param p))
    (h : ∀ r, requestedChange? r p value = (number1? low high value).map f)
    (apply : ∀ n, s.stateAllows (f n) = true ∧ s.apply (f n) = s.withParameter code index n) :
    PlainSet s code index value { width := 1, low, high } p where
  ref := ref
  takes ht := ⟨_, by rw [h, number1?_eq_some_iff.mpr ⟨ht, rfl⟩]; rfl, apply _⟩
  refused ht := by
    rw [h, Option.map_eq_none_iff]
    exact eq_none_of_not (fun _ hn => (number1?_eq_some_iff.mp hn).1) fun _ => ht

/-- A parameter whose value is a number in two bytes. -/
theorem PlainSet.of_number2 (f : Nat → Change) (ref : ref? code index = some (.param p))
    (h : ∀ r, requestedChange? r p value = (number2? low high value).map f)
    (apply : ∀ n, s.stateAllows (f n) = true ∧ s.apply (f n) = s.withParameter code index n) :
    PlainSet s code index value { width := 2, low, high } p where
  ref := ref
  takes ht := ⟨_, by rw [h, number2?_eq_some_iff.mpr ⟨ht, rfl⟩]; rfl, apply _⟩
  refused ht := by
    rw [h, Option.map_eq_none_iff]
    exact eq_none_of_not (fun _ hn => (number2?_eq_some_iff.mp hn).1) fun _ => ht

/-- A parameter of two values. -/
theorem PlainSet.of_code01 (f : Bool → Change) (ref : ref? code index = some (.param p))
    (h : ∀ r, requestedChange? r p value = (code01? value).map f)
    (apply : ∀ b : Bool, s.stateAllows (f b) = true ∧ s.apply (f b) = s.withParameter code index (codeBit b).toNat) :
    PlainSet s code index value { width := 1, low := 0, high := 1 } p where
  ref := ref
  takes ht := by
    obtain ⟨b, rfl⟩ := takes_code_iff.mp ht
    rw [valueNumber_singleton]
    exact ⟨f b, by rw [h, code01?_eq_some_iff.mpr rfl]; rfl, apply b⟩
  refused ht := by
    rw [h, Option.map_eq_none_iff]
    exact eq_none_of_not (fun _ hb => takes_code_iff.mpr ⟨_, code01?_eq_some_iff.mp hb⟩) fun _ => ht

end

theorem ofNat_byteOf {n : Nat} [NeZero n] (hn : n ≤ 256) (i : Fin n) : Fin.ofNat n (byteOf i).toNat = i := by
  rw [toNat_byteOf_of_lt (by omega)]
  exact Fin.ofNat_val_eq_self i

/-- A per-span parameter that a SET replaces alone. -/
theorem State.updateParams_eq (s : State) (sp : Fin 4) (f : SpanParams → SpanParams) :
    s.updateParams sp f = s.withSpanParams (byteOf sp) f := by
  rw [withSpanParams, ofNat_byteOf (by decide) sp]
  rfl

theorem codeBit_toNat_eq_one (b : Bool) : (codeBit b).toNat = 1 ↔ b = true := by cases b <;> decide

/-- The tier that a SET gives an originator. -/
theorem State.setTier_eq (s : State) (o : Fin 8) (b : Bool) :
    s.apply (.tier o (if b then .high else .low)) = s.withParameter 0x06#8 (byteOf o) (codeBit b).toNat := by
  show _ = s.setParams { s.params with
    tier := s.params.tier.set (Fin.ofNat 8 (byteOf o).toNat) (if (codeBit b).toNat = 1 then .high else .low) }
  simp only [ofNat_byteOf (by decide : 8 ≤ 256) o, codeBit_toNat_eq_one]
  rfl

theorem State.setClosedAnswer_eq (s : State) (sp : Fin 4) (b : Bool) :
    s.apply (.closedAnswer sp (if b then .fail else .refuse)) = s.withParameter 0x0B#8 (byteOf sp) (codeBit b).toNat := by
  refine (s.updateParams_eq sp fun p => { p with closedAnswer := if b then .fail else .refuse }).trans ?_
  simp only [← codeBit_toNat_eq_one b]
  rfl

/-- R147: each parameter of the table is set by its own value alone. -/
theorem exists_plainSet {code index : Byte} {range : ValueRange} (h : plainParameter code = some range)
    (hindex : index.toNat < indexCount code) (s : State) (value : List Byte) : ∃ p, PlainSet s code index value range p := by
  have hcode : byteOf code.toNat = code := byteOf_toNat code
  unfold plainParameter at h
  split at h
  all_goals
    rename_i hc
    cases h
  all_goals
    rw [hc] at hcode
    subst hcode
  · obtain rfl := eq_zero_of_toNat_lt_one hindex
    exact ⟨.discardMs, .of_number2 .discardMs rfl (fun _ => rfl) fun _ => ⟨rfl, rfl⟩⟩
  · obtain rfl := eq_zero_of_toNat_lt_one hindex
    exact ⟨.lingerMs, .of_number2 .lingerMs rfl (fun _ => rfl) fun _ => ⟨rfl, rfl⟩⟩
  · obtain ⟨sp, rfl⟩ : ∃ sp : Fin 4, index = byteOf sp := exists_byteOf hindex
    exact ⟨.quota sp, .of_number1 (.quota sp) (ref?_byteOf (f := fun i => .param (.quota i)) (fun _ => rfl) (by decide) sp)
      (fun _ => rfl) fun n => ⟨rfl, s.updateParams_eq sp fun p => { p with quota := n }⟩⟩
  · obtain rfl := eq_zero_of_toNat_lt_one hindex
    exact ⟨.attempts, .of_number1 .attempts rfl (fun _ => rfl) fun _ => ⟨rfl, rfl⟩⟩
  · obtain rfl := eq_zero_of_toNat_lt_one hindex
    exact ⟨.postBurst, .of_number1 .postBurst rfl (fun _ => rfl) fun _ => ⟨rfl, rfl⟩⟩
  · obtain ⟨o, rfl⟩ : ∃ o : Fin 8, index = byteOf o := exists_byteOf hindex
    refine ⟨.tier o, .of_code01 (fun b => .tier o (if b then .high else .low))
      (ref?_byteOf (f := fun i => .param (.tier i)) (fun _ => rfl) (by decide) o) (fun _ => rfl) fun b => ⟨rfl, ?_⟩⟩
    exact s.setTier_eq o b
  · obtain ⟨sp, rfl⟩ : ∃ sp : Fin 4, index = byteOf sp := exists_byteOf hindex
    exact ⟨.responseMs sp, .of_number1 (.responseMs sp)
      (ref?_byteOf (f := fun i => .param (.responseMs i)) (fun _ => rfl) (by decide) sp)
      (fun _ => rfl) fun n => ⟨rfl, s.updateParams_eq sp fun p => { p with responseMs := n }⟩⟩
  · obtain ⟨sp, rfl⟩ : ∃ sp : Fin 4, index = byteOf sp := exists_byteOf hindex
    exact ⟨.backoffMs sp, .of_number1 (.backoffMs sp)
      (ref?_byteOf (f := fun i => .param (.backoffMs i)) (fun _ => rfl) (by decide) sp)
      (fun _ => rfl) fun n => ⟨rfl, s.updateParams_eq sp fun p => { p with backoffMs := n }⟩⟩
  · obtain ⟨sp, rfl⟩ : ∃ sp : Fin 4, index = byteOf sp := exists_byteOf hindex
    exact ⟨.settleMs sp, .of_number2 (.settleMs sp)
      (ref?_byteOf (f := fun i => .param (.settleMs i)) (fun _ => rfl) (by decide) sp)
      (fun _ => rfl) fun n => ⟨rfl, s.updateParams_eq sp fun p => { p with settleMs := n }⟩⟩
  · obtain ⟨sp, rfl⟩ : ∃ sp : Fin 4, index = byteOf sp := exists_byteOf hindex
    exact ⟨.closedAnswer sp, .of_code01 (fun b => .closedAnswer sp (if b then .fail else .refuse))
      (ref?_byteOf (f := fun i => .param (.closedAnswer i)) (fun _ => rfl) (by decide) sp)
      (fun _ => rfl) fun b => ⟨rfl, s.setClosedAnswer_eq sp b⟩⟩

/-- Settles O30. -/
theorem setOfOtherParameters : Obligations.SetOfOtherParameters := by
  intro seq o code index value s hs
  refine ⟨fun range hplain hindex => ?_, fun h => ?_⟩
  · obtain ⟨p, href, htakes, hrefused⟩ := exists_plainSet hplain hindex s value
    refine ⟨fun ht => ?_, fun ht => exec_badValue (value := value) hs rfl href (hrefused ht)⟩
    obtain ⟨c, hchange, hallows, happly⟩ := htakes ht
    rw [exec_done (value := value) hs rfl href hchange hallows, happly]
  · cases href : ref? code index with
    | none => exact exec_badParameter hs rfl href
    | some r =>
      cases r with
      | param p =>
        rcases h with h | h
        · rw [ref?_eq_none_of_indexCount h] at href
          cases href
        · exact absurd href (ref?_ne_param h index p)
      | item i =>
        rw [exec_setParameter (value := value) hs rfl]
        simp only [State.setParameter, href]

end Sys2Proof.Machine

/-! GET (R149): what it reports, and that it reports what a SET gave (R180). -/

namespace Sys2Proof.Machine

set_option Elab.async false -- one proof after another, as in the files under Laws/

/-! ## Reports -/

theorem exec_get {s : State} (hs : Ready s) (seq : Byte) (o : Fin 8) (code index : Byte) :
    exec (.get seq (byteOf o) code index) s = .next (s.replied (replyTo seq (byteOf o) (s.getValue code index))) :=
  congrArg Host.Outcome.next (State.message_get hs seq o code index)

theorem State.getValue_param {code index : Byte} {p : ParamRef} (h : ref? code index = some (.param p)) (s : State) :
    s.getValue code index = .value code index (s.paramValue p) := by
  simp only [getValue, h]

theorem State.getValue_item {code index : Byte} {i : ItemRef} (h : ref? code index = some (.item i)) (s : State) :
    s.getValue code index = .value code index (s.itemValue i) := by
  simp only [getValue, h]

theorem State.getValue_badParameter {code index : Byte} (h : ref? code index = none) (s : State) :
    s.getValue code index = .refused .badParameter := by
  simp only [getValue, h]

/-- A parameter of a span, an originator, a window or a condition is reported under the index's byte. -/
theorem State.getValue_paramAt {n : Nat} {code : Byte} (f : Fin n → ParamRef)
    (h : ∀ index, ref? code index = (index? n index).map fun i => .param (f i)) (hn : n ≤ 256) (s : State) (i : Fin n) :
    s.getValue code (byteOf i) = .value code (byteOf i) (s.paramValue (f i)) :=
  getValue_param (ref?_byteOf h hn i) s

theorem State.getValue_itemAt {code : Byte} (f : Fin 4 → ItemRef)
    (h : ∀ index, ref? code index = (index? 4 index).map fun i => .item (f i)) (s : State) (i : Fin 4) :
    s.getValue code (byteOf i) = .value code (byteOf i) (s.itemValue (f i)) :=
  getValue_item (ref?_byteOf h (by decide) i) s

theorem codeBit_beq {α : Type} [DecidableEq α] (a b : α) : codeBit (a == b) = if a = b then 1#8 else 0#8 := by
  by_cases h : a = b <;> simp [codeBit, h]

theorem EntryState.isQueued_eq (state : EntryState) : state.isQueued = (state == .queued) := by cases state <;> rfl

theorem EntryState.isRunning_eq (state : EntryState) : state.isRunning = (state == .running) := by cases state <;> rfl

theorem EntryState.isCancelling_eq (state : EntryState) : state.isCancelling = (state == .cancelling) := by cases state <;> rfl

theorem State.defaultSpan_value (s : State) :
    s.paramValue .defaultSpan = [match s.router.defaultSpan with | none => 0xFF#8 | some sp => byteOf sp] := by
  simp only [paramValue]
  cases s.router.defaultSpan <;> rfl

/-- Settles O31, code by code. -/
theorem getReportsTheState : Obligations.GetReportsTheState := by
  intro seq o code index s hs reports count
  have report {code index : Byte} {value : List Byte} (h : s.getValue code index = .value code index value) :
      reports code index value := by
    show exec _ _ = _
    rw [exec_get hs, h]
  refine ⟨fun h => ?_, report rfl, report ?tableCount, report rfl, report rfl, report rfl, report rfl, report ?alertSet, report rfl,
    report rfl, report rfl, report rfl, report rfl, report rfl, report ?defaultSpan, report rfl, fun p => report ?tier,
    fun i => report ?route, fun n => report ?alertEnable, fun sp => ?_⟩
  · rw [exec_get hs, s.getValue_badParameter (ref?_eq_none_of_indexCount h)]
  case tableCount =>
    simp only [s.getValue_item (code := 0x41#8) (index := 0#8) (i := .tableCount) rfl, State.itemValue, TransactionTable.counts,
      EntryState.isQueued_eq, EntryState.isRunning_eq, EntryState.isCancelling_eq]
    rfl
  case alertSet => rw [s.getValue_item (i := .alertSet) rfl, State.itemValue, AlertUnit.records_eq_layout]
  case defaultSpan => exact (s.getValue_param (p := .defaultSpan) rfl).trans (congrArg _ s.defaultSpan_value)
  case tier => rw [s.getValue_paramAt .tier (fun _ => rfl) (by decide), State.paramValue, codeBit_beq]
  case route =>
    rw [s.getValue_paramAt .route (fun _ => rfl) (by decide), State.paramValue]
    cases s.router.window i <;> rfl
  case alertEnable =>
    rw [s.getValue_paramAt .alertEnable (fun _ => rfl) (by decide)]
    rfl
  refine ⟨report (s.getValue_paramAt .quota (fun _ => rfl) (by decide) sp), report (s.getValue_paramAt .rate (fun _ => rfl) (by decide) sp),
    report (s.getValue_paramAt .responseMs (fun _ => rfl) (by decide) sp),
    report (s.getValue_paramAt .backoffMs (fun _ => rfl) (by decide) sp),
    report (s.getValue_paramAt .settleMs (fun _ => rfl) (by decide) sp), report ?closedAnswer,
    report (s.getValue_paramAt .pollMs (fun _ => rfl) (by decide) sp),
    report (s.getValue_paramAt .roster (fun _ => rfl) (by decide) sp),
    report (s.getValue_paramAt .missLimit (fun _ => rfl) (by decide) sp),
    report (s.getValue_itemAt .postDepth (fun _ => rfl) sp), report (s.getValue_itemAt .postsDiscarded (fun _ => rfl) sp),
    report (s.getValue_itemAt .spanState (fun _ => rfl) sp), report (s.getValue_itemAt .jobsCompleted (fun _ => rfl) sp),
    report (s.getValue_itemAt .attemptsMade (fun _ => rfl) sp), report (s.getValue_itemAt .attemptsBusy (fun _ => rfl) sp),
    report (s.getValue_itemAt .attemptsSilent (fun _ => rfl) sp), report (s.getValue_itemAt .attemptsGarbled (fun _ => rfl) sp),
    report (s.getValue_itemAt .nodeStatus (fun _ => rfl) sp)⟩
  case closedAnswer => rw [s.getValue_paramAt .closedAnswer (fun _ => rfl) (by decide), State.paramValue, codeBit_beq]
/-! ## A GET behind a SET -/

theorem State.updateParams_span (s : State) (sp : Fin 4) (f : SpanParams → SpanParams) :
    ((s.updateParams sp f).span sp).params = f (s.span sp).params := by simp [updateParams]

theorem State.setMissLimit_span (s : State) (sp : Fin 4) (limit : Nat) :
    ((s.setMissLimit sp limit).span sp).params.missLimit = limit := by
  have hspans := congrArg (fun spans => (spans[sp]).params.missLimit) (offers_spans sp nodeLost (newlyLost (s.span sp).roster limit)
    (s.setSpan sp { s.span sp with
      params := { (s.span sp).params with missLimit := limit }, roster := (s.span sp).roster.map fun r => r.clamped limit }))
  exact hspans.trans (congrArg (fun u => u.params.missLimit) (s.setSpan_span_self sp _))

/-- R180: a window is reported as the bytes that set it. -/
theorem windowBytes_of_routeValue {r : Router} {i : Fin 8} {value : List Byte} {w : Option Window} (h : RouteValue r i value w) :
    windowBytes w = value := by
  obtain ⟨rfl, rfl⟩ | ⟨f1, f0, l1, l0, sp, base, rfl, rfl, -⟩ := h
  · rfl
  · simp only [windowBytes, bytesOf16_valueNumber (value := [f1, f0]) rfl, bytesOf16_valueNumber (value := [l1, l0]) rfl, byteOf_toNat]
    rfl

/-- R149, R180: an accepted value is reported as the bytes that set it, ROSTER apart. -/
theorem State.paramValue_apply {s : State} {p : ParamRef} {value : List Byte} {c : Change}
    (h : requestedChange? s.router p value = some c) (hp : ∀ sp, p ≠ .roster sp) : (s.apply c).paramValue p = value := by
  cases p with
  | roster sp => exact absurd rfl (hp sp)
  | route i =>
    obtain ⟨w, rfl, hw⟩ := requestedChange?_route_iff.mp h
    simp only [apply, paramValue, setRouter_router, Router.setWindow_window, if_true, windowBytes_of_routeValue hw]
  | defaultSpan =>
    obtain ⟨d, hd, rfl⟩ := Option.map_eq_some_iff.mp h
    obtain ⟨rfl, rfl⟩ | ⟨sp, rfl, rfl⟩ := defaultSpan?_eq_some_iff.mp hd <;> rfl
  | discardMs | lingerMs =>
    obtain ⟨n, hn, rfl⟩ := Option.map_eq_some_iff.mp h
    obtain ⟨⟨hlength, -⟩, rfl⟩ := number2?_eq_some_iff.mp hn
    exact bytesOf16_valueNumber hlength
  | settleMs sp | pollMs sp =>
    obtain ⟨n, hn, rfl⟩ := Option.map_eq_some_iff.mp h
    obtain ⟨⟨hlength, -⟩, rfl⟩ := number2?_eq_some_iff.mp hn
    simp only [apply, paramValue, updateParams_span, updateSpan_span_self, SpanUnit.setPollMs, bytesOf16_valueNumber hlength]
  | attempts | postBurst =>
    obtain ⟨n, hn, rfl⟩ := Option.map_eq_some_iff.mp h
    obtain ⟨⟨hlength, -⟩, rfl⟩ := number1?_eq_some_iff.mp hn
    exact byteOf_valueNumber hlength
  | quota sp | responseMs sp | backoffMs sp | missLimit sp =>
    obtain ⟨n, hn, rfl⟩ := Option.map_eq_some_iff.mp h
    obtain ⟨⟨hlength, -⟩, rfl⟩ := number1?_eq_some_iff.mp hn
    simp only [apply, paramValue, updateParams_span, setMissLimit_span, byteOf_valueNumber hlength]
  | rate sp =>
    obtain ⟨r, hr, rfl⟩ := Option.map_eq_some_iff.mp h
    obtain ⟨hlength, hnumber⟩ := rate?_eq_some_iff.mp hr
    simp only [apply, paramValue, updateParams_span, ← hnumber, bytesOf16_valueNumber hlength]
  | tier o =>
    obtain ⟨b, hb, rfl⟩ := Option.map_eq_some_iff.mp h
    rw [code01?_eq_some_iff.mp hb]
    have htier : (s.apply (.tier o (if b then .high else .low))).paramValue (.tier o) =
        [codeBit ((if b then Tier.high else Tier.low) == .high)] := by simp [apply, paramValue]
    rw [htier]
    cases b <;> rfl
  | closedAnswer sp =>
    obtain ⟨b, hb, rfl⟩ := Option.map_eq_some_iff.mp h
    rw [code01?_eq_some_iff.mp hb]
    simp only [apply, paramValue, updateParams_span]
    cases b <;> rfl
  | alertReporting =>
    obtain ⟨b, hb, rfl⟩ := Option.map_eq_some_iff.mp h
    rw [code01?_eq_some_iff.mp hb]
    cases b <;> rfl
  | alertEnable n =>
    obtain ⟨b, hb, rfl⟩ := Option.map_eq_some_iff.mp h
    rw [code01?_eq_some_iff.mp hb]
    have henable : ((s.alerts.setEnable n b).condition n).enable = b := by
      rw [AlertUnit.setEnable_eq]
      show ((s.alerts.setCondition n _).condition n).enable = b
      rw [AlertUnit.setCondition_condition, if_pos rfl]
    exact congrArg (fun b => [codeBit b]) henable

theorem State.paramValue_setLink (s : State) (l : LinkInterface) (p : ParamRef) : (s.setLink l).paramValue p = s.paramValue p := by
  cases p <;> rfl

theorem State.replied_last (s : State) (sl : Slot) : ((s.replied sl).link.replies.getLast?.map fun x => x.reply) = some sl.reply := by
  unfold State.replied
  cases s.link.transmitter <;> simp

/-- The relay is ready for a message behind one that it has answered, while a slot is free. -/
theorem Ready.replied {s : State} (hs : Ready s) (h : s.link.replies.length < 7) (sl : Slot) : Ready (s.replied sl) := by
  obtain ⟨hserving, hintake, -, -⟩ := hs
  unfold Ready State.replied
  cases ht : s.link.transmitter with
  | idle => simp [hserving, hintake]
  | sending source bytes =>
    simp only [State.setLink_control, State.setLink_link, hserving, hintake, ht, List.length_append, List.length_singleton, reduceCtorEq,
      false_imp_iff, and_true, true_and]
    omega

/-- R147: only an accepted SET is answered DONE. -/
theorem State.setParameter_of_done {s : State} {code index : Byte} {value : List Byte}
    (h : (s.setParameter code index value).2 = .done 0) :
    ∃ p c, ref? code index = some (.param p) ∧ requestedChange? s.router p value = some c ∧ (s.setParameter code index value).1 = s.apply c := by
  unfold setParameter at h ⊢
  cases href : ref? code index with
  | none => simp [href] at h
  | some r =>
    cases r with
    | item i => simp [href] at h
    | param p =>
      cases hc : requestedChange? s.router p value with
      | none => simp [href, hc] at h
      | some c =>
        cases hallows : s.stateAllows c with
        | false => simp [href, hc, hallows] at h
        | true => exact ⟨p, c, rfl, hc, by simp [hc, hallows]⟩

theorem ref?_roster_code {code index : Byte} {sp : Fin 4} (h : ref? code index = some (.param (.roster sp))) : code = 0x0D#8 := by
  unfold ref? at h
  simp only [zeroOnly_eq] at h
  split at h
  case h_13 hc => exact BitVec.eq_of_toNat_eq hc
  all_goals simp at h

/-- Settles O32: the GET finds the value that the SET gave, and the relay is ready for it. -/
theorem getAfterSetReturnsTheValue : Obligations.GetAfterSetReturnsTheValue := by
  intro seq seq' o o' code index value s t hs hroom hcode hset hdone
  rw [exec_setParameter (value := value) hs rfl] at hset
  cases hset
  rw [State.replied_last, Option.some.injEq] at hdone
  obtain ⟨p, c, href, hchange, hstate⟩ := State.setParameter_of_done hdone
  have hready : Ready (s.apply c) := by simpa [Ready] using hs
  have hvalue : (s.apply c).paramValue p = value :=
    State.paramValue_apply hchange fun sp hp => hcode (ref?_roster_code (hp ▸ href))
  rw [hstate, exec_get (hready.replied (by simpa using hroom) _), State.getValue_param href]
  simp only [State.replied, State.paramValue_setLink, hvalue]

end Sys2Proof.Machine

/-! Timers (R19, R20, R54, R88), a line fault (R96), reports to the roster (R115, R116) and offers to the Notice Queue (R122). -/

namespace Sys2Proof.Machine

set_option Elab.async false -- one proof after another, as in the files under Laws/

/-! ## Timers -/

theorem State.discardExpired_of_not_held {s : State} {k : Key} (h : ∀ x ∈ s.table.entries, x.key = k → x.state.isHeld = false) :
    s.discardExpired k = s := by
  unfold discardExpired
  cases hf : s.table.find k with
  | none => rfl
  | some e =>
    obtain ⟨he, hk⟩ := find_eq_some hf
    simp only [h e he hk, Bool.false_eq_true, if_false]

theorem State.lingerExpired_of_not_delivered {s : State} {k : Key}
    (h : ∀ x ∈ s.table.entries, x.key = k → x.state.isDelivered = false) : s.lingerExpired k = s := by
  unfold lingerExpired
  cases hf : s.table.find k with
  | none => rfl
  | some e =>
    obtain ⟨he, hk⟩ := find_eq_some hf
    simp only [h e he hk, Bool.false_eq_true, if_false]

/-- Settles O45, by the entry that has the key. -/
theorem tableTimersFreeTheirEntries : Obligations.TableTimersFreeTheirEntries := by
  rintro k e s ⟨-, hkeys⟩ hsound
  refine ⟨?_, fun h => ?_, ?_, fun h => ?_⟩
  · rintro he rfl hheld
    show Host.Outcome.next (s.discardExpired e.key).choose = _
    simp only [State.discardExpired, find_of_mem hkeys he, hheld, if_true, free_entries hkeys]
    rfl
  · show Host.Outcome.next (s.discardExpired k).choose = _
    rw [State.discardExpired_of_not_held h, State.choose_of_sound hsound]
  · rintro he rfl hdelivered
    show Host.Outcome.next (s.lingerExpired e.key) = _
    simp only [State.lingerExpired, find_of_mem hkeys he, hdelivered, if_true, free_entries hkeys]
    rfl
  · exact congrArg _ (State.lingerExpired_of_not_delivered h)

/-- Settles O46. -/
theorem spanTimersExpire : Obligations.SpanTimersExpire := by
  intro sp s
  refine ⟨rfl, ?_⟩
  show Host.Outcome.next (s.pollTimerExpired sp) = _
  unfold State.pollTimerExpired
  dsimp only
  cases (s.span sp).scheduler.pollTimer with
  | stopped | expired => rfl
  | running ms =>
    simp only [State.updateSpan, State.setSpan_span_self, List.isEmpty_iff]

/-! ## A line fault -/

theorem State.setEntries_setSpan (s : State) (es : List Entry) (sp : Fin 4) (u : SpanUnit) :
    (s.setEntries es).setSpan sp u = (s.setSpan sp u).setEntries es := rfl

theorem State.raise_setSpan (s : State) (n : AlertCondition) (cause : FirstCause) (sp : Fin 4) (u : SpanUnit) :
    (s.raise n cause).setSpan sp u = (s.setSpan sp u).raise n cause := rfl

/-- Settles O54: the fault cleans up as SPAN OFF does, and raises last. -/
theorem lineFaultTakesTheSpanOutOfService : Obligations.LineFaultTakesTheSpanOutOfService := by
  intro sp s hsubjects hsound u begun faulted cleanedUp discarded
  have hcleaned : cleanup sp .lineFault (s.span sp).attemptsBegun s.params.discardMs s.table.entries =
      cleaned sp .lineFault begun s.params.discardMs s.table.entries := by
    cases hj : (s.span sp).job with
    | none => simp only [cleanup_attemptsBegun_none hj, begun, u, hj]
    | some j => simp only [cleanup_attemptsBegun hsubjects hj, begun, u, hj]
  refine ⟨fun hopen => ?_, fun hclosed => ?_⟩
  · show Host.Outcome.next (s.lineFault sp).choose = _
    have hopen' : (s.span sp).state.isOpen = true := hopen
    simp only [State.lineFault, hopen', if_true, State.shutSpan_eq hcleaned, discarded, u]
    cases (s.span sp).posts with
    | nil | cons =>
      simp only [State.raiseDiscarded, State.updateSpan, State.raise_setSpan, State.setEntries_setSpan, State.setSpan_setSpan,
        State.raise_span, State.setEntries_span, State.setSpan_span_self]
      rfl
  · show Host.Outcome.next (s.lineFault sp).choose = _
    have hclosed' : (s.span sp).state.isOpen = false := hclosed
    simp only [State.lineFault, hclosed', Bool.false_eq_true, if_false, State.choose_of_sound hsound]

/-! ## Reports to the roster -/

/-- In an ascending roster a search by address finds the record that has it. -/
theorem find?_address {rs : List NodeRecord} (ascending : rs.Pairwise fun a b => a.address < b.address) {r : NodeRecord} (hr : r ∈ rs) :
    (rs.find? fun x => x.address == r.address) = some r := by
  induction rs with
  | nil => cases hr
  | cons x rs ih =>
    obtain ⟨hx, hrs⟩ := List.pairwise_cons.mp ascending
    obtain rfl | hr := List.mem_cons.mp hr
    · simp
    · have hne : x.address ≠ r.address := Nat.ne_of_lt (hx r hr)
      rw [List.find?_cons_of_neg (by simpa using hne)]
      exact ih hrs hr

/-- Settles O53. -/
theorem rosterTakesReports : Obligations.RosterTakesReports := by
  intro sp address s hs u withRecord
  obtain ⟨-, ascending, -⟩ := hs sp
  refine ⟨fun hnone => ?_, ?_⟩
  · have hnode : (s.span sp).node address = none := by simpa [SpanUnit.node] using hnone
    simp only [State.answered, State.missed, hnode, and_self]
  · rintro r hr rfl
    have hnode : (s.span sp).node r.address = some r := find?_address ascending hr
    have hset (r' : NodeRecord) (h : r'.address = r.address) : s.updateSpan sp (fun v => v.setNode r') = withRecord r' := by
      simp only [State.updateSpan, SpanUnit.setNode, updateFirst_address ascending, withRecord, h, u]
    have hlost : s.updateSpan sp (fun v => v.setNode { r with status := .lost, misses := v.params.missLimit }) =
        withRecord { r with status := .lost, misses := u.params.missLimit } := hset _ rfl
    refine ⟨?_, ?_⟩
    · simp only [State.answered, hnode, hset]
      rfl
    · simp only [State.missed, hnode, hset, hlost]
      rfl

/-! ## Offers -/

/-- Settles O59: no entry before the matching one matches. -/
theorem offersCoalesceJoinOrOverflow : Obligations.OffersCoalesceJoinOrOverflow := by
  intro sp node kind value s hapart
  rw [pairwise_subjects] at hapart
  refine ⟨?_, fun hnone => ?_⟩
  · rintro before n after hentries rfl rfl rfl
    have hmatch : n.matches n.span n.node n.kind = true := (n.matches_iff _ _ _).mpr rfl
    have hbefore (x : Notice) (hx : x ∈ before) : x.matches n.span n.node n.kind = false := by
      rw [Bool.eq_false_iff]
      intro hm
      rw [hentries, List.map_append, List.map_cons, List.nodup_append] at hapart
      exact hapart.2.2 _ (List.mem_map_of_mem hx) _ List.mem_cons_self ((x.matches_iff _ _ _).mp hm)
    have hany : (s.notices.entries.any fun e => e.matches n.span n.node n.kind) = true :=
      List.any_eq_true.mpr ⟨n, by simp [hentries], hmatch⟩
    simp only [State.offer, hany, if_true, coalesce_eq_updateFirst]
    rw [hentries, updateFirst_append hbefore hmatch]
    rfl
  · have hany : (s.notices.entries.any fun e => e.matches sp node kind) = false := by
      simpa [Notice.matches, and_assoc] using hnone
    refine ⟨fun hroom => ?_, fun hfull => ?_⟩
    · simp only [State.offer, hany, Bool.false_eq_true, if_false, Config.noticeCapacity, hroom, if_true]
    · simp only [State.offer, hany, Bool.false_eq_true, if_false, Config.noticeCapacity, hfull, Nat.lt_irrefl]
      rfl

end Sys2Proof.Machine

/-! Attempts: their phases (R61 to R73), their repeats (R73, R74) and the hand-over of a job's outcome (R77). -/

namespace Sys2Proof.Machine

set_option Elab.async false -- one proof after another, as in the files under Laws/

/-! ## Phases -/

/-- R65: the command frame, byte by byte. -/
theorem Job.commandFrame_eq (j : Job) :
    j.commandFrame =
      (let body := [byteOf j.node, (match j.operation with | .read => 1#8 | .write => 2#8 | .poll => 3#8), j.item, byteOf j.length] ++ j.data
       body ++ [crc8 body]) := by
  unfold commandFrame
  cases j.operation <;> rfl

theorem SpanUnit.phase_of_none {u : SpanUnit} (h : u.job = none) : u.phase = none := by rw [phase, h]; rfl

theorem SpanUnit.phase_of_some {u : SpanUnit} {j : Job} (h : u.job = some j) : u.phase = some j.phase := by rw [phase, h]; rfl

theorem SpanUnit.setPhase_eq {u : SpanUnit} {j : Job} (h : u.job = some j) (p : Phase) :
    u.setPhase p = { u with job := some { j with phase := p } } := by rw [setPhase, h]; rfl

/-- What the engine does with the events of Table 4-10 while it has no job. -/
theorem SpanUnit.events_of_free {u : SpanUnit} (h : u.job = none) (lineActive : Bool) :
    u.turnaroundCompleted = u ∧ u.backoffExpired = u ∧ u.commandSent lineActive = u ∧
      u.responseStarted = { u with idle3 := false } ∧ u.lineIdle = { u with idle3 := true } := by
  unfold turnaroundCompleted backoffExpired commandSent responseStarted lineIdle
  rw [phase_of_none h]
  refine ⟨?_, ?_, rfl, rfl, rfl⟩ <;> rw [h]

section
variable {u : SpanUnit} {j : Job} (h : u.job = some j)
include h

theorem SpanUnit.turnaroundCompleted_of_job :
    u.turnaroundCompleted = match j.phase with | .turnaround _ => u.beginAttempt j | _ => u := by
  rw [turnaroundCompleted, h] <;> rfl

theorem SpanUnit.backoffExpired_of_job : u.backoffExpired = match j.phase with | .backoff _ => u.enterTurnaround j | _ => u := by
  rw [backoffExpired, h] <;> rfl

theorem SpanUnit.commandSent_of_job (lineActive : Bool) :
    u.commandSent lineActive =
      match j.phase with
      | .sending _ =>
        { u with
          sde := false, measure := .running
          job := some { j with phase := if lineActive then .receiving else .window u.params.responseMs } }
      | _ => u := by
  rw [commandSent, phase_of_some h]
  cases j.phase with
  | sending frame => exact setPhase_eq (u := { u with sde := false, measure := .running }) h _
  | turnaround | window | receiving | backoff => rfl

theorem SpanUnit.responseStarted_of_job :
    u.responseStarted =
      match j.phase with
      | .window _ => { u with job := some { j with phase := .receiving } }
      | .turnaround _ | .backoff _ => { u with idle3 := false }
      | .sending _ | .receiving => u := by
  rw [responseStarted, phase_of_some h]
  cases j.phase with
  | window ms => exact setPhase_eq h _
  | turnaround | sending | receiving | backoff => rfl

theorem SpanUnit.lineIdle_of_job :
    u.lineIdle =
      match j.phase with
      | .turnaround _ => u.beginAttempt j
      | .backoff _ => { u with idle3 := true }
      | .sending _ | .window _ | .receiving => u := by
  rw [lineIdle, phase_of_some h, turnaroundCompleted_of_job h]
  cases j.phase <;> rfl

end

/-- Settles O47, by the phase of the job. -/
theorem attemptGoesThroughItsPhases : Obligations.AttemptGoesThroughItsPhases := by
  intro sp lineActive chars s u active idle
  refine ⟨fun hj => ?_, fun j hj => ?_⟩
  · obtain ⟨hturnaround, hbackoff, hsent, hstarted, hidle⟩ := SpanUnit.events_of_free (u := s.span sp) hj lineActive
    have hphase : (s.span sp).phase = none := SpanUnit.phase_of_none hj
    have hself {f : SpanUnit → SpanUnit} (h : f (s.span sp) = s.span sp) : s.updateSpan sp f = s := by
      rw [State.updateSpan, h, State.setSpan_self]
    refine ⟨congrArg _ (hself hturnaround), congrArg _ (hself hbackoff), congrArg _ (hself (f := fun u => u.commandSent _) hsent),
      congrArg (fun v => Host.Outcome.next (s.setSpan sp v)) hstarted, fun hsound => ⟨?_, ?_, ?_⟩⟩
    · have hended : s.responseEnded sp chars = idle := by
        unfold State.responseEnded
        rw [show (s.span sp).job = none from hj]
        exact congrArg (s.setSpan sp) hidle
      have hchoose : idle.choose = idle := State.choose_of_sound (hsound.congr rfl rfl rfl rfl)
      exact congrArg Host.Outcome.next (by rw [hended, hchoose])
    · simp only [exec, execResponseWindowExpiry, State.windowExpired, hphase, State.choose_of_sound hsound]
    · simp only [exec, execResponseCharacter37, State.responseOverlong, hphase, State.choose_of_sound hsound]
  · have hjob : (s.span sp).job = some j := hj
    have hphase : (s.span sp).phase = some j.phase := SpanUnit.phase_of_some hjob
    intro body sending phase
    have hsending : (s.span sp).beginAttempt j = sending := by
      rw [SpanUnit.beginAttempt, j.commandFrame_eq] <;> rfl
    refine ⟨?_, ?_, ?_, ?_, fun hsound hnot => ⟨?_, ?_⟩, fun hsound hnot => ?_⟩
    · show Host.Outcome.next (s.setSpan sp (s.span sp).turnaroundCompleted) = _
      rw [SpanUnit.turnaroundCompleted_of_job hjob, hsending]
      cases j.phase with
      | turnaround => rfl
      | sending | window | receiving | backoff => exact congrArg _ (s.setSpan_self sp)
    · show Host.Outcome.next (s.setSpan sp (s.span sp).backoffExpired) = _
      rw [SpanUnit.backoffExpired_of_job hjob, SpanUnit.enterTurnaround, hsending]
      cases j.phase with
      | backoff => rfl
      | turnaround | sending | window | receiving => exact congrArg _ (s.setSpan_self sp)
    · show Host.Outcome.next (s.setSpan sp ((s.span sp).commandSent lineActive)) = _
      rw [SpanUnit.commandSent_of_job hjob]
      cases j.phase with
      | sending => rfl
      | turnaround | window | receiving | backoff => exact congrArg _ (s.setSpan_self sp)
    · show Host.Outcome.next (s.setSpan sp (s.span sp).responseStarted) = _
      rw [SpanUnit.responseStarted_of_job hjob]
      cases j.phase with
      | window | turnaround | backoff => rfl
      | sending | receiving => exact congrArg _ (s.setSpan_self sp)
    · have hended : s.responseEnded sp chars = s.setSpan sp (s.span sp).lineIdle := by
        unfold State.responseEnded
        rw [hjob]
        cases hp : j.phase with
        | receiving => exact absurd hp hnot
        | turnaround | sending | window | backoff => simp only [hp] <;> rfl
      have hchoose : (s.setSpan sp (s.span sp).lineIdle).choose = s.setSpan sp (s.span sp).lineIdle :=
        State.choose_of_sound (hsound.congr rfl rfl rfl rfl)
      show Host.Outcome.next (s.responseEnded sp chars).choose = _
      rw [hended, hchoose, SpanUnit.lineIdle_of_job hjob, hsending]
      cases hp : j.phase with
      | receiving => exact absurd hp hnot
      | turnaround | backoff => rfl
      | sending | window => exact congrArg _ (s.setSpan_self sp)
    · have hstays : s.responseOverlong sp = s := by
        unfold State.responseOverlong
        rw [hphase]
        cases hp : j.phase with
        | receiving => exact absurd hp hnot
        | turnaround | sending | window | backoff => rfl
      exact congrArg Host.Outcome.next (by rw [hstays, State.choose_of_sound hsound])
    · have hstays : s.windowExpired sp = s := by
        unfold State.windowExpired
        rw [hphase]
        cases hp : j.phase with
        | window ms => exact absurd hp (hnot ms)
        | turnaround | sending | receiving | backoff => rfl
      exact congrArg Host.Outcome.next (by rw [hstays, State.choose_of_sound hsound])

end Sys2Proof.Machine

/-! The end of an attempt (R73, R74) and the hand-over of a job's outcome (R77). -/

namespace Sys2Proof.Machine

set_option Elab.async false -- one proof after another, as in the files under Laws/

/-! ## The end of an attempt -/

theorem SpanCounters.count_eq (c : SpanCounters) (r : AttemptResult) :
    c.count r = { c with
      attemptsBusy := c.attemptsBusy + match r with | .busy => 1 | _ => 0
      attemptsSilent := c.attemptsSilent + match r with | .silent => 1 | _ => 0
      attemptsGarbled := c.attemptsGarbled + match r with | .garbled _ => 1 | _ => 0 } := by
  cases r <;> simp [count]

/-- R70, R82: an attempt's result is counted and kept, in the words of the statements. -/
theorem SpanUnit.counted_eq (u : SpanUnit) (j : Job) (r : AttemptResult) (idle : Bool) :
    { u with idle3 := idle, job := some { j with lastResult := some r }, counters := u.counters.count r } = u.counted j r idle := by
  rw [SpanCounters.count_eq]
  exact rfl

theorem Job.endsWith_iff (j : Job) (r : AttemptResult) : j.endsWith r = true ↔ EndsJob j r := by
  cases r <;> simp [endsWith, EndsJob]

/-- An attempt that ends on a span ends its job, or is tried again (R72 to R76). -/
theorem State.attemptEnded_eq {s : State} {sp : Fin 4} {j : Job} (hj : (s.span sp).job = some j) (r : AttemptResult) (idle : Bool) :
    (s.updateSpan sp fun u => { u with idle3 := idle }).attemptEnded sp r =
      if j.kind = .poll ∨ j.endsWith r = true then
        (s.setSpan sp ((s.span sp).counted j r idle)).handOver sp { j with lastResult := some r } r
      else s.setSpan sp (((s.span sp).counted j r idle).retry { j with lastResult := some r } r) := by
  have hjob : ((s.updateSpan sp fun u => { u with idle3 := idle }).span sp).job = some j := by simp [hj]
  have hends : ({ j with lastResult := some r } : Job).endsWith r = j.endsWith r := by cases r <;> rfl
  have hcounted := (s.span sp).counted_eq j r idle
  unfold attemptEnded
  rw [hjob]
  simp only [updateSpan, setSpan_setSpan, setSpan_span_self, hends, hcounted]

section
variable {c : Instr} {sp : Fin 4} {j : Job} {r : AttemptResult} {idle : Bool} {s : State} (hj : (s.span sp).job = some j)
  (hends : EndsAttempt c sp j r idle)
include hj hends

/-- Each command that ends an attempt says what SDn has been and ends it. -/
theorem exec_endsAttempt : exec c s = .next ((s.updateSpan sp fun u => { u with idle3 := idle }).attemptEnded sp r).choose := by
  have hphase : (s.span sp).phase = some j.phase := SpanUnit.phase_of_some hj
  obtain ⟨rfl, ⟨ms, hp⟩, rfl, rfl⟩ | ⟨chars, rfl, hp, rfl, rfl⟩ | ⟨rfl, hp, rfl, rfl⟩ := hends
  · show Host.Outcome.next (s.windowExpired sp).choose = _
    unfold State.windowExpired
    rw [hphase, hp]
  · show Host.Outcome.next (s.responseEnded sp chars).choose = _
    unfold State.responseEnded
    rw [hj]
    simp only [hp]
  · show Host.Outcome.next (s.responseOverlong sp).choose = _
    unfold State.responseOverlong
    rw [hphase, hp]

theorem exec_endsJob (h : j.kind = .poll ∨ EndsJob j r) :
    exec c s = .next ((s.setSpan sp ((s.span sp).counted j r idle)).handOver sp { j with lastResult := some r } r).choose := by
  rw [exec_endsAttempt hj hends, State.attemptEnded_eq hj, if_pos (by rwa [Job.endsWith_iff])]

end

/-- The change of a Span Unit gives a sound transmitter nothing to choose. -/
theorem TransmitterSound.choose_setSpan {s : State} (h : TransmitterSound s) (sp : Fin 4) (u : SpanUnit) :
    (s.setSpan sp u).choose = s.setSpan sp u :=
  State.choose_of_sound (h.congr rfl rfl rfl rfl)

/-- Settles O49, by the result and the line. -/
theorem attemptIsTriedAgain : Obligations.AttemptIsTriedAgain := by
  intro c sp j r idle s hj hends hkind hnot hsound u kept
  rw [exec_endsAttempt hj hends, State.attemptEnded_eq hj, if_neg (by simp [Job.endsWith_iff, hkind, hnot]), hsound.choose_setSpan]
  cases r with
  | busy => rfl
  | done | refused | notice | nothing | silent | garbled => cases idle <;> rfl

/-! ## The hand-over -/

theorem Job.record_eq (j : Job) (r : AttemptResult) : j.record r = recordOf j r := by
  cases r with
  | garbled data =>
    cases data with
    | none => rfl
    | some data =>
      simp only [record, outcome, recordOf]
      split_ifs <;> rfl
  | done | busy | refused | notice | nothing | silent => rfl

theorem completeJob_eq (sp : Fin 4) (r : CompletionRecord) (discardMs : Nat) (es : List Entry) :
    completeJob sp r discardMs es = es.filterMap fun e =>
      if e.span = sp ∧ e.state = .running then some { e with state := .held r discardMs }
      else if e.span = sp ∧ e.state = .cancelling then none
      else some e := by
  refine List.filterMap_congr fun e _ => ?_
  by_cases hsp : e.span = sp
  · cases hst : e.state <;> simp [hsp]
  · simp [hsp]

theorem State.afterJob_eq (s : State) (sp : Fin 4) : s.afterJob sp = s.jobEnded sp := by
  rw [jobEnded_eq, afterJob, updateSpan]
  by_cases h : (s.span sp).state = .quiescing
  · rw [if_pos h, SpanUnit.freed, if_pos h, schedule, if_neg (by simp)]
    rfl
  · rw [if_neg h, SpanUnit.freed, if_neg h]
    rfl

/-- What a job reports to the roster, and what follows (R77). -/
theorem State.reported_eq (s : State) (o : CompletionOutcome) (sp : Fin 4) (address : Nat) :
    (if isAnswer o then s.answered sp address else s).jobEnded sp =
      (if o = .noResponse then s else s.answered sp address).afterJob sp := by
  rw [afterJob_eq]
  cases o <;> rfl

theorem Job.record_counted (j : Job) (r : AttemptResult) : ({ j with lastResult := some r } : Job).record r = recordOf j r := by
  rw [record_eq]
  cases r with
  | garbled data => cases data <;> rfl
  | done | busy | refused | notice | nothing | silent => rfl

/-- Settles O50. -/
theorem deferredJobHandsOverItsOutcome : Obligations.DeferredJobHandsOverItsOutcome := by
  intro c sp j r idle s hj hends hkind hjob record recorded
  have hrecorded : (s.setSpan sp ((s.span sp).counted j r idle)).deferredEnded sp record = recorded := by
    rw [State.deferredEnded, completeJob_eq]
    rfl
  have hover : (s.setSpan sp ((s.span sp).counted j r idle)).handOver sp { j with lastResult := some r } r =
      (if record.outcome = .noResponse then recorded else recorded.answered sp j.node).afterJob sp := by
    rw [← hrecorded, ← State.reported_eq, show record = Job.record _ r from (j.record_counted r).symm]
    simp only [State.handOver, hkind]
    rfl
  rw [exec_endsJob hj hends (.inr hjob), hover]

theorem postDone_eq (sp : Fin 4) (es : List Entry) :
    postDone sp es = es.map fun e => if e.span = sp then { e with barrier := e.barrier - 1 } else e := by
  simp only [postDone, beq_iff_eq]

/-- Settles O51, by the outcome. -/
theorem postJobHandsOverItsOutcome : Obligations.PostJobHandsOverItsOutcome := by
  intro c sp j r idle p posts s hj hends hkind hop hjob hposts removed cause raised
  have hcounted : ((s.setSpan sp ((s.span sp).counted j r idle)).span sp).posts = p :: posts := by
    rw [State.setSpan_span_self]
    exact hposts
  have hraised : (s.setSpan sp ((s.span sp).counted j r idle)).postEnded sp (recordOf j r).outcome = raised := by
    unfold State.postEnded
    rw [hcounted]
    simp only [State.updateSpan, State.setSpan_setSpan, State.setSpan_span_self, State.setSpan_table, postDone_eq, raised]
    cases (recordOf j r).outcome <;> rfl
  have hover : (s.setSpan sp ((s.span sp).counted j r idle)).handOver sp { j with lastResult := some r } r =
      (if (recordOf j r).outcome = .noResponse then raised else raised.answered sp j.node).afterJob sp := by
    rw [← hraised, ← State.reported_eq, ← j.record_counted r]
    simp only [State.handOver, hkind]
    rfl
  rw [exec_endsJob hj hends (.inr hjob), hover]

theorem SpanUnit.node_isSome_iff (u : SpanUnit) (address : Nat) :
    (u.node address).isSome = true ↔ ∃ x ∈ u.roster, x.address = address := by
  simp [node, List.find?_isSome]

/-- Settles O52, by the result of the poll. -/
theorem pollJobHandsOverItsOutcome : Obligations.PollJobHandsOverItsOutcome := by
  intro c sp j r idle s hj hends hkind counted reported
  have hreported : counted.pollOutcome sp j.node r = reported := by
    cases r with
    | notice kind value =>
      have hroster : (counted.span sp).roster = (s.span sp).roster :=
        (congrArg SpanUnit.roster (s.setSpan_span_self sp _)).trans rfl
      simp only [State.pollOutcome, SpanUnit.node_isSome_iff, hroster, reported]
    | done | busy | refused | nothing | silent | garbled => rfl
  have hover : counted.handOver sp { j with lastResult := some r } r = reported.afterJob sp := by
    rw [← hreported, State.afterJob_eq]
    simp only [State.handOver, hkind]
  rw [exec_endsJob hj hends (.inl hkind), hover]

end Sys2Proof.Machine

/-! The end of a frame (R173, R177), the restart event (R157) and the way out of HELD (R160). -/

namespace Sys2Proof.Machine

set_option Elab.async false -- one proof after another, as in the files under Laws/

/-! ## The end of a frame -/

/-- Where no frame waits in vain, an event is followed by the choice alone. -/
theorem State.serve_of_settled {s : State} (h : Settled s) : s.serve = s.choose := by
  by_cases hi : s.link.intake = []
  · exact State.serve_of_empty hi
  · rw [State.serve, State.takes_of_full _ (Nat.le_of_eq (h hi).symm)]

/-- A frame that is answered fills one slot. -/
theorem State.answer_replies_length (s : State) (f : Frame) : (s.answer f).link.replies.length = s.link.replies.length + 1 := by
  unfold State.answer
  split
  · simp [State.fill]
  · next o m _ =>
    have hreplies : (s.act o m).1.link.replies = s.link.replies := by
      by_cases hm : m = .restart
      · subst hm
        rfl
      · rw [(State.act_link hm).1]
    simp [State.fill, hreplies]

/-- R170: a freed slot lets the head of the Intake Queue be taken, and no frame behind it. -/
theorem State.serve_of_freed {s : State} {f : Frame} {frames : List Frame} (hs : s.control.state = .serving)
    (hi : s.link.intake = f :: frames) (hr : s.link.replies.length = 7) :
    s.serve = ((s.setLink { s.link with intake := frames }).answer f).choose := by
  have hcan : s.canTake = true := by simp [State.canTake, hs, hi, hr, Config.replyCapacity]
  have htake : s.take = (s.setLink { s.link with intake := frames }).answer f := by rw [State.take, hi]
  have hfull : 8 ≤ s.take.link.replies.length := by
    rw [htake, State.answer_replies_length]
    exact Nat.le_of_eq (by simp [hr])
  rw [State.serve, hi, List.length_cons, State.takes, if_pos hcan, State.takes_of_full _ hfull, htake]

/-- Settles O41, by what the transmitter sends. -/
theorem frameEndFreesTheTransmitter : Obligations.FrameEndFreesTheTransmitter := by
  intro bytes sl slots f frames begun s hlink
  refine ⟨fun hidle => ?_, fun hsending hreplies hfresh => ?_, fun hunsolicited => ?_, fun hready => ?_⟩
  · show Host.Outcome.next s.txFrameEnded = _
    simp only [State.txFrameEnded, hidle]
  · obtain ⟨sl', slots', hreplies', -, hslots, hfree⟩ := hlink.sending_slot hsending
    obtain ⟨rfl, rfl⟩ := List.cons.inj (hreplies.symm.trans hreplies')
    have hends : s.endsRestart = false := by
      simp only [State.endsRestart, hreplies, List.any_cons, hfresh, Bool.and_false, Bool.false_or, List.any_eq_false]
      intro x hx
      simp [hslots x hx]
    have hended : exec .txFrameEnd s = .next (s.setLink { s.link with replies := slots, transmitter := .idle }).serve := by
      show Host.Outcome.next s.txFrameEnded = _
      simp only [State.txFrameEnded, hsending, hends, Bool.false_eq_true, if_false, hfree]
    refine ⟨fun hi => ?_, fun hi => ?_⟩
    · exact hended.trans (congrArg Host.Outcome.next (State.serve_of_empty hi))
    · obtain ⟨hserving, hlength⟩ := hlink.2.1.2.2.1 (by simp [hi])
      have hseven : slots.length = 7 := by simpa [hreplies] using hlength
      exact hended.trans (congrArg Host.Outcome.next (State.serve_of_freed hserving hi hseven))
  · have hsettled : Settled (s.setLink { s.link with transmitter := .idle }) := hlink.settled
    show Host.Outcome.next s.txFrameEnded = _
    rw [← State.serve_of_settled hsettled]
    obtain h | h := hunsolicited <;> simp only [State.txFrameEnded, h]
  · have hdormant := (hlink.announcing_of_ready hready).dormant
    have hreceiver : ({ s.link with transmitter := .idle, receiver := .hunting } : LinkInterface) = { s.link with transmitter := .idle } := by
      rw [← hdormant.receiver]
    show Host.Outcome.next s.txFrameEnded = _
    simp only [State.txFrameEnded, hready, hreceiver]
    refine congrArg Host.Outcome.next ((State.serve_of_empty (by exact hdormant.intake)).trans (State.choose_of_sound ?_))
    exact fun _ => ⟨nofun, fun _ => ⟨hdormant.replies, hdormant.due, .inl hdormant.credit⟩⟩

/-! ## Relay control -/

/-- READY as it is laid out (R158, Tables 9-5 and 10-10). -/
theorem State.takeReady_eq (s : State) (cause : ReadyCause) (begun : Bool) :
    s.takeReady cause begun = s.setLink { s.link with
      transmitter := .sending (.ready begun)
        (frameLayout [0xC3#8, s.link.unsolicited, 0#8, cause.code, 0x1C#8, 0x4A#8, 0x04#8, 0x15#8, 1#8, 4#8, 16#8])
      unsolicited := s.link.unsolicited + 1 } := by
  rw [takeReady, sendUnsolicited, unsolicitedBytes, frameBytes_eq_layout]
  rfl

/-- Settles O42. -/
theorem restartEventResetsEveryBlock : Obligations.RestartEventResetsEveryBlock := by
  intro bytes sl s hsending hreplies hslot hrestart
  have hends : s.endsRestart = true := by simp [State.endsRestart, hreplies, hslot, hrestart]
  have hspans : (fun sp : Fin 4 => (s.span sp).restarted) = fun sp =>
      { State.reset.span sp with
        params := (s.span sp).params
        roster := (s.span sp).roster.map fun r => { r with status := .unseen, misses := 0 } } := by
    funext sp
    rw [State.reset_span]
    rfl
  show Host.Outcome.next s.txFrameEnded = _
  simp only [State.txFrameEnded, hsending, hends, if_true, State.restartEvent, State.takeReady_eq, hspans]
  rfl

/-- R160: the relay leaves HELD with RSTn high and the start-up over. -/
theorem State.leaveHeld_eq {s : State} (hs : s.control.state = .held) (hrstn : s.control.rstnHigh = true) (hstart : s.control.startUp = false)
    (p : Straps) :
    s.leaveHeld p = (s.setControl { s.control with state := .announcing, rstnHigh := true, startUp := false }).setLink { s.link with
      bitRate := strapRate p
      transmitter := .sending (.ready false)
        (frameLayout [0xC3#8, s.link.unsolicited, 0#8, if s.control.readyBegun then 1#8 else 0#8, 0x1C#8, 0x4A#8, 0x04#8, 0x15#8, 1#8,
          4#8, 16#8])
      unsolicited := s.link.unsolicited + 1 } := by
  have hcause : (if s.control.readyBegun then ReadyCause.resetLine else .powerOn).code = if s.control.readyBegun then 1#8 else 0#8 := by
    split_ifs <;> rfl
  have hcontrol : ({ s.control with state := .announcing, rstnHigh := true, startUp := false } : RelayControl) =
      { s.control with state := .announcing } := by rw [← hrstn, ← hstart]
  rw [leaveHeld, if_pos ⟨hs, hrstn, by simp [hstart]⟩, takeReady_eq, hcause, hcontrol]
  rfl

theorem State.leaveHeld_of_not {s : State} (h : s.control.rstnHigh = false ∨ s.control.startUp = true) (p : Straps) : s.leaveHeld p = s := by
  refine if_neg ?_
  rintro ⟨-, hrstn, hstart⟩
  obtain h | h := h
  · rw [h] at hrstn
    cases hrstn
  · exact hstart h

/-- Settles O44, by RSTn and the start-up. -/
theorem relayLeavesHeldAnnouncing : Obligations.RelayLeavesHeldAnnouncing := by
  intro p begun bytes s rate cause announcing
  refine ⟨fun hs hstart => ?_, fun hstart => ?_, fun hs hrstn => ?_, fun hrstn => ?_, fun hready => ?_, fun hnone => ?_⟩
  · show Host.Outcome.next (s.startUpEnded p) = _
    rw [State.startUpEnded, if_pos hstart]
    cases hrstn : s.control.rstnHigh with
    | true =>
      rw [State.leaveHeld_eq (s := s.setControl { s.control with startUp := false }) hs hrstn rfl p]
      rfl
    | false =>
      exact congrArg Host.Outcome.next (State.leaveHeld_of_not (.inl (by exact hrstn)) p)
  · exact congrArg _ (if_neg (by simp [hstart]))
  · show Host.Outcome.next (s.rstnHigh p) = _
    rw [State.rstnHigh, if_neg (by simp [hrstn])]
    cases hstart : s.control.startUp with
    | true =>
      exact congrArg Host.Outcome.next (State.leaveHeld_of_not (.inr (by exact hstart)) p)
    | false =>
      rw [State.leaveHeld_eq (s := s.setControl { s.control with rstnHigh := true }) hs rfl hstart p]
      rfl
  · exact congrArg _ (if_pos hrstn)
  · show Host.Outcome.next s.readyBegins = _
    simp only [State.readyBegins, hready]
  · show Host.Outcome.next s.readyBegins = _
    unfold State.readyBegins
    split
    · next b bs h => exact absurd h (hnone b bs)
    · rfl

end Sys2Proof.Machine

/-! Frames from the host: what the receiver makes of a frame's bytes (R163 to R166), and where a good frame waits (R169). -/

namespace Sys2Proof.Machine

set_option Elab.async false -- one proof after another, as in the files under Laws/

/-! ## Waiting frames -/

theorem overrunCause_eq (orig : Byte) :
    overrunCause orig = if h : orig.toNat < 8 then .originator ⟨orig.toNat, h⟩ else .none := by
  unfold overrunCause index?
  split_ifs <;> rfl

/-- A full Reply Queue and a busy transmitter let nothing follow. -/
theorem State.serve_of_full {s : State} {source : Source} {bytes : List Byte} (hr : s.link.replies.length = 8)
    (ht : s.link.transmitter = .sending source bytes) : s.serve = s := by
  rw [serve, State.takes_of_full _ (Nat.le_of_eq hr.symm), State.choose_of_sending ht]

/-- Settles O39. -/
theorem framesWaitWhileTheReplyQueueIsFull : Obligations.FramesWaitWhileTheReplyQueueIsFull := by
  intro c kind seq orig fields source bytes s hbody
  rw [exec_of_messageBody hbody, State.message, State.judged]
  refine ⟨fun hs hr ht hi => ?_, fun hs hr ht hi => ?_, fun hs => by rw [if_neg hs]⟩
  · rw [if_pos hs, State.offerFrame, if_pos (show _ < Config.intakeCapacity from hi)]
    exact congrArg Host.Outcome.next (State.serve_of_full hr ht)
  · rw [if_pos hs, State.offerFrame, if_neg (by simp [Config.intakeCapacity, hi]), overrunCause_eq]
    exact congrArg Host.Outcome.next (State.serve_of_full hr ht)

/-! ## Bytes and words -/

theorem toNat_append (high low : Byte) : (high ++ low).toNat = number16 high low := by
  rw [BitVec.toNat_append, ← Nat.shiftLeft_add_eq_or_of_lt low.isLt, Nat.shiftLeft_eq, number16]

/-- A word is read back from its two bytes. -/
theorem append_bytes16 (w : Word16) : highByte w ++ lowByte w = w :=
  BitVec.eq_of_toNat_eq (by rw [toNat_append, number16_word])

theorem bytes16_append (high low : Byte) : bytes16 (high ++ low) = [high, low] := by
  have h1 := high.isLt
  have h0 := low.isLt
  simp only [bytes16, highByte, lowByte, toNat_append, number16, List.cons.injEq, and_true]
  constructor <;> apply BitVec.eq_of_toNat_eq <;> simp <;> omega

/-! ## The examination of bytes, case by case (R165 to R168) -/

section
variable (gap : Bool)

@[simp] theorem examine_nil (n : Nat) : examine gap n [] = ([], .hunting) := by
  unfold examine
  rfl

@[simp] theorem examine_skip_cons (n : Nat) (b : Byte) (rest : List Byte) : examine gap (n + 1) (b :: rest) = examine gap n rest := by
  rw [examine]

/-- A byte other than the sync byte is dropped in HUNTING. -/
theorem examine_other {b : Byte} (h : b ≠ Config.syncByte) (rest : List Byte) : examine gap 0 (b :: rest) = examine gap 0 rest := by
  rw [examine, if_neg h]

theorem examine_sync_alone : examine gap 0 [Config.syncByte] = if gap then ([.failed], .hunting) else ([], .collecting []) := by
  rw [examine, if_pos rfl, examine_nil]

theorem examine_badLength {l : Byte} (h : lengthByteOk l = false) (more : List Byte) :
    examine gap 0 (Config.syncByte :: l :: more) = (.failed :: (examine gap 0 (l :: more)).1, (examine gap 0 (l :: more)).2) := by
  rw [examine, if_pos rfl]
  simp only [h, Bool.false_eq_true, if_false]

theorem examine_incomplete {l : Byte} (h : lengthByteOk l = true) {more : List Byte} (hmore : more.length < l.toNat + 2) :
    examine gap 0 (Config.syncByte :: l :: more) =
      if gap then (.failed :: (examine gap 0 (l :: more)).1, (examine gap 0 (l :: more)).2) else ([], .collecting (l :: more)) := by
  rw [examine, if_pos rfl]
  simp only [h, if_true, Nat.not_le.mpr hmore, if_false]

theorem examine_failed {l : Byte} (h : lengthByteOk l = true) {more : List Byte} (hmore : l.toNat + 2 ≤ more.length)
    (hj : judgeComplete l more = .failed) :
    examine gap 0 (Config.syncByte :: l :: more) = (.failed :: (examine gap 0 (l :: more)).1, (examine gap 0 (l :: more)).2) := by
  rw [examine, if_pos rfl]
  simp only [h, if_true, hmore, hj]

theorem examine_good {l : Byte} (h : lengthByteOk l = true) {more : List Byte} (hmore : l.toNat + 2 ≤ more.length) {f : Frame}
    (hj : judgeComplete l more = .good f) :
    examine gap 0 (Config.syncByte :: l :: more) =
      (.good f :: (examine gap (l.toNat + 3) (l :: more)).1, (examine gap (l.toNat + 3) (l :: more)).2) := by
  conv_lhs => rw [examine, if_pos rfl]
  simp only [h, if_true, hmore, hj]

end

/-- The bytes of a good frame are passed over. -/
theorem examine_skip (gap : Bool) {n : Nat} {bytes : List Byte} (h : bytes.length ≤ n) : examine gap n bytes = ([], .hunting) := by
  induction bytes generalizing n with
  | nil => exact examine_nil gap n
  | cons b rest ih =>
    cases n with
    | zero => simp at h
    | succ n => rw [examine_skip_cons, ih (by simpa using h)]

/-- R166: a complete frame is good when its two last bytes are the CRC of those before. -/
theorem judgeComplete_eq {l kind seq orig : Byte} {fields : List Byte} (hl : l.toNat = fields.length + 3) (c1 c0 : Byte) (more : List Byte) :
    judgeComplete l ((kind :: seq :: orig :: fields) ++ c1 :: c0 :: more) =
      if crc16 (l :: kind :: seq :: orig :: fields) = c1 ++ c0 then .good (frame kind seq orig fields) else .failed := by
  have hlength : l.toNat = (kind :: seq :: orig :: fields).length := by simpa using hl
  unfold judgeComplete
  rw [List.take_left' hlength.symm, List.drop_left' hlength.symm] <;> rfl

/-- R163, R164, R166: the bytes of a frame spell its body. -/
theorem examine_frameLayout (gap : Bool) {kind seq orig : Byte} {fields : List Byte} (h : fields.length ≤ 93) :
    examine gap 0 (frameLayout (kind :: seq :: orig :: fields)) = ([.good (frame kind seq orig fields)], .hunting) := by
  have hl : (byteOf (kind :: seq :: orig :: fields).length).toNat = fields.length + 3 := toNat_byteOf_of_lt (by simp; omega)
  have hok : lengthByteOk (byteOf (kind :: seq :: orig :: fields).length) = true := by
    simp only [lengthByteOk, hl, Bool.and_eq_true, decide_eq_true_eq]
    omega
  rw [← frameBytes_eq_layout, frameBytes]
  generalize byteOf (kind :: seq :: orig :: fields).length = l at hl hok
  have hgood := judgeComplete_eq (kind := kind) (seq := seq) (orig := orig) hl (highByte (crc16 (l :: kind :: seq :: orig :: fields)))
    (lowByte (crc16 (l :: kind :: seq :: orig :: fields))) []
  rw [if_pos (append_bytes16 _).symm] at hgood
  refine (examine_good gap hok (by simp [hl]) hgood).trans ?_
  rw [examine_skip gap (by simp [hl])]

/-! ## Bodies that are no message's -/

theorem readWriteFields_eq_some {fields : List Byte} {p : Fin 4096 × Byte × Nat × List Byte} (h : readWriteFields fields = some p) :
    ∃ u1 u0 item length data, fields = u1 :: u0 :: item :: length :: data := by
  unfold readWriteFields at h
  split at h
  · exact ⟨_, _, _, _, _, rfl⟩
  · cases h

section
variable {o : Fin 8} {fields : List Byte} {m : HostMessage}

theorem parseRead_eq_some (h : parseRead o fields = some m) : ∃ u1 u0 item length flag, fields = [u1, u0, item, length, flag] := by
  unfold parseRead at h
  split at h
  · exact ⟨_, _, _, _, _, rfl⟩
  · cases h

theorem parseSet_eq_some (h : parseSet fields = some m) : ∃ code index value, fields = code :: index :: value := by
  unfold parseSet at h
  split at h
  · exact ⟨_, _, _, rfl⟩
  · cases h

theorem parseGet_eq_some (h : parseGet fields = some m) : ∃ code index, fields = [code, index] := by
  unfold parseGet at h
  split at h
  · exact ⟨_, _, rfl⟩
  · cases h

theorem parseClear_eq_some (h : parseClear fields = some m) : ∃ high low, fields = [high, low] := by
  unfold parseClear at h
  split at h
  · exact ⟨_, _, rfl⟩
  · cases h

theorem parseCredit_eq_some (h : parseCredit fields = some m) : ∃ grant, fields = [grant] := by
  unfold parseCredit at h
  split at h
  · exact ⟨_, rfl⟩
  · cases h

theorem parseRestart_eq_some (h : parseRestart fields = some m) : fields = [] := by
  unfold parseRestart at h
  split at h
  · rfl
  · cases h

end

theorem exists_cancelBody {o : Fin 8} {fields : List Byte} {m : HostMessage} (h : parseCancel o fields = some m) (seq orig : Byte) :
    ∃ d : Instr, messageBody d = some (0x04#8 :: seq :: orig :: fields) := by
  have hkey (op u1 u0 item length : Byte) (data : List Byte) :
      ∃ d : Instr, messageBody d = some (0x04#8 :: seq :: orig :: 0#8 :: op :: u1 :: u0 :: item :: length :: data) :=
    ⟨.cancelKey seq orig op (u1 ++ u0) item length data, by rw [messageBody, bytes16_append]; rfl⟩
  unfold parseCancel at h
  split at h
  · cases h
  · next form rest =>
    split_ifs at h with h1 hrest h0
    · subst h1 hrest
      exact ⟨.cancelAll seq orig, rfl⟩
    · subst h0
      split at h
      · cases h
      · next op rest =>
        split_ifs at h
        · split at h
          · exact hkey _ _ _ _ _ []
          · cases h
        · obtain ⟨p, hp, -⟩ := Option.map_eq_some_iff.mp h
          obtain ⟨u1, u0, item, length, data, rfl⟩ := readWriteFields_eq_some hp
          exact hkey _ _ _ _ _ data

theorem spanAction?_eq_some {b : Byte} {a : SpanAction} (h : spanAction? b = some a) : b = 0#8 ∨ b = 1#8 ∨ b = 2#8 := by
  unfold spanAction? at h
  split at h
  · next hb => exact .inl (BitVec.eq_of_toNat_eq hb)
  · next hb => exact .inr (.inl (BitVec.eq_of_toNat_eq hb))
  · next hb => exact .inr (.inr (BitVec.eq_of_toNat_eq hb))
  · cases h

theorem exists_spanBody {fields : List Byte} {m : HostMessage} (h : parseSpan fields = some m) (seq orig : Byte) :
    ∃ d : Instr, messageBody d = some (0x05#8 :: seq :: orig :: fields) := by
  unfold parseSpan at h
  split at h
  · next span action =>
    split at h
    · next ha =>
      obtain rfl | rfl | rfl := spanAction?_eq_some ha
      · exact ⟨.spanEnable seq orig span, rfl⟩
      · exact ⟨.spanQuiesce seq orig span, rfl⟩
      · exact ⟨.spanOff seq orig span, rfl⟩
    · cases h
  · cases h

/-- What the envelope checks accept is the body of a message row (R171, Table 10-9). -/
theorem exists_messageBody {kind seq orig : Byte} {fields : List Byte} {p : Fin 8 × HostMessage}
    (h : (frame kind seq orig fields).message = some p) : ∃ d : Instr, messageBody d = some (kind :: seq :: orig :: fields) := by
  have hkind : byteOf kind.toNat = kind := byteOf_toNat kind
  unfold Frame.message at h
  split at h
  · cases h
  · obtain ⟨m, hm, -⟩ := Option.map_eq_some_iff.mp h
    dsimp only [frame] at hm
    split at hm
    case h_11 => cases hm
    all_goals
      rename_i hk
      rw [hk] at hkind
      subst hkind
    · obtain ⟨u1, u0, item, length, flag, rfl⟩ := parseRead_eq_some hm
      exact ⟨.read seq orig (u1 ++ u0) item length flag, by rw [messageBody, bytes16_append]; rfl⟩
    · obtain ⟨p, hp, -⟩ := Option.map_eq_some_iff.mp hm
      obtain ⟨u1, u0, item, length, data, rfl⟩ := readWriteFields_eq_some hp
      exact ⟨.write seq orig (u1 ++ u0) item length data, by rw [messageBody, bytes16_append]; rfl⟩
    · obtain ⟨p, hp, -⟩ := Option.map_eq_some_iff.mp hm
      obtain ⟨u1, u0, item, length, data, rfl⟩ := readWriteFields_eq_some hp
      exact ⟨.post seq orig (u1 ++ u0) item length data, by rw [messageBody, bytes16_append]; rfl⟩
    · exact exists_cancelBody hm seq orig
    · exact exists_spanBody hm seq orig
    · obtain ⟨code, index, value, rfl⟩ := parseSet_eq_some hm
      exact ⟨.set seq orig code index value, rfl⟩
    · obtain ⟨code, index, rfl⟩ := parseGet_eq_some hm
      exact ⟨.get seq orig code index, rfl⟩
    · obtain ⟨high, low, rfl⟩ := parseClear_eq_some hm
      exact ⟨.clear seq orig (high ++ low), by rw [messageBody, bytes16_append]; rfl⟩
    · obtain ⟨grant, rfl⟩ := parseCredit_eq_some hm
      exact ⟨.credit seq orig grant, rfl⟩
    · obtain rfl := parseRestart_eq_some hm
      exact ⟨.restart seq orig, rfl⟩

/-- Settles O36. -/
theorem hostFrameIsItsMessage : Obligations.HostFrameIsItsMessage := by
  intro c kind seq orig fields s hserving hhunting hlength
  have hreceived : exec (.hostFrame (frameLayout (kind :: seq :: orig :: fields))) s = .next (s.message (frame kind seq orig fields)) := by
    have hlink : s.setLink { s.link with receiver := .hunting } = s := by rw [← hhunting]; rfl
    show Host.Outcome.next (s.receive _) = _
    simp only [State.receive, hserving, if_true, hhunting, Receiver.unresolved, List.nil_append, State.receiverEvent,
      examine_frameLayout false hlength, hlink, List.foldl_cons, List.foldl_nil, State.message]
  refine ⟨fun hbody => ⟨_, exec_of_messageBody hbody s, hreceived⟩, fun hs hnone => ?_⟩
  rw [hreceived, State.message_malformed hs]
  · rfl
  · rw [Option.eq_none_iff_forall_ne_some]
    intro p hp
    obtain ⟨d, hd⟩ := exists_messageBody hp
    exact hnone d hd

end Sys2Proof.Machine

/-! The receiver beside the rest of the machine: no owner's act reads or writes the Host Link, RESTART and GET apart. -/

namespace Sys2Proof.Machine

set_option Elab.async false -- one proof after another, as in the files under Laws/

/-! ## Acts and the Host Link -/

section
variable (s : State) (l : LinkInterface)

theorem State.ite_setLink (c : Prop) [Decidable c] (a b : State) :
    (if c then a else b).setLink l = if c then a.setLink l else b.setLink l := apply_ite (State.setLink · l) c a b

/-- An act's state and reply, beside another Host Link. -/
def linked (p : State × Reply) : State × Reply := (p.1.setLink l, p.2)

theorem linked_ite (c : Prop) [Decidable c] (p q : State × Reply) :
    linked l (if c then p else q) = if c then linked l p else linked l q := apply_ite (linked l) c p q

theorem State.offer_setLink (sp : Fin 4) (node kind value : Nat) :
    (s.setLink l).offer sp node kind value = (s.offer sp node kind value).setLink l := by
  simp only [offer, ite_setLink]
  rfl

theorem State.offers_setLink (sp : Fin 4) (kind : Nat) (as : List Nat) :
    as.foldl (fun s a => s.offer sp a kind 0) (s.setLink l) = (as.foldl (fun s a => s.offer sp a kind 0) s).setLink l := by
  induction as generalizing s with
  | nil => rfl
  | cons a rest ih => rw [List.foldl_cons, offer_setLink, ih, List.foldl_cons]

theorem State.startDeferred_setLink (sp : Fin 4) : (s.setLink l).startDeferred sp = (s.startDeferred sp).setLink l := by
  unfold startDeferred
  simp only [setLink_params, setLink_table, setLink_span]
  split
  · rfl
  · split <;> rfl

theorem State.decision_setLink (sp : Fin 4) : (s.setLink l).decision sp = (s.decision sp).setLink l := by
  simp only [decision, ite_setLink, ← startDeferred_setLink]
  rfl

theorem State.schedule_setLink (sp : Fin 4) : (s.setLink l).schedule sp = (s.schedule sp).setLink l := by
  simp only [schedule, ite_setLink, ← decision_setLink]
  rfl

theorem State.answerRepeat_setLink (e : Entry) : (s.setLink l).answerRepeat e = linked l (s.answerRepeat e) := by
  unfold answerRepeat
  split
  case h_4 => rw [linked_ite]; rfl
  all_goals rfl

theorem State.acceptOpen_setLink (k : Key) (flag : Bool) (sp : Fin 4) (node : Nat) :
    (s.setLink l).acceptOpen k flag sp node = linked l (s.acceptOpen k flag sp node) := by
  simp only [acceptOpen, setLink_table, setLink_span]
  split
  · rfl
  · next t _ =>
    rw [linked, ite_setLink, ← schedule_setLink]
    rfl

theorem State.acceptClosed_setLink (k : Key) (flag : Bool) (sp : Fin 4) (node : Nat) :
    (s.setLink l).acceptClosed k flag sp node = linked l (s.acceptClosed k flag sp node) := by
  simp only [acceptClosed, setLink_table, setLink_span]
  split
  · rfl
  · split <;> rfl

theorem State.request_setLink (k : Key) (flag : Bool) : (s.setLink l).request k flag = linked l (s.request k flag) := by
  unfold request
  simp only [setLink_table, setLink_router]
  split
  · exact answerRepeat_setLink s l _
  · split
    · rfl
    · rw [linked_ite, ← acceptOpen_setLink, ← acceptClosed_setLink]
      rfl

theorem State.acceptPost_setLink (o : Fin 8) (unit : Fin 4096) (item : Byte) (length : Nat) (data : List Byte) :
    (s.setLink l).acceptPost o unit item length data = linked l (s.acceptPost o unit item length data) := by
  unfold acceptPost
  dsimp only [setLink_router, setLink_span]
  split
  · rfl
  · next sp node _ =>
    by_cases hopen : (s.span sp).state.isOpen = true
    · rw [if_pos hopen, if_pos hopen, linked_ite, linked, linked, ← schedule_setLink]
      rfl
    · rw [if_neg hopen, if_neg hopen]
      split <;> rfl

theorem State.shutSpan_setLink (sp : Fin 4) (target : SpanState) (scheduler : Scheduler) (o : CompletionOutcome) :
    (s.setLink l).shutSpan sp target scheduler o = (s.shutSpan sp target scheduler o).setLink l := by
  simp only [shutSpan, setLink_span, raiseDiscarded]
  split <;> rfl

theorem State.spanAction_setLink (sp : Fin 4) (a : SpanAction) : (s.setLink l).spanAction sp a = linked l (s.spanAction sp a) := by
  cases a with
  | enable =>
    simp only [spanAction, spanEnable, setLink_span]
    split
    case h_5 =>
      rw [linked, ← schedule_setLink]
      rfl
    all_goals rfl
  | quiesce =>
    simp only [spanAction, spanQuiesce, setLink_span]
    split <;> rfl
  | off =>
    simp only [spanAction, spanOff, setLink_span]
    split
    case h_1 | h_6 => rfl
    all_goals
      rw [shutSpan_setLink]
      rfl

theorem State.apply_setLink (c : Change) : (s.setLink l).apply c = (s.apply c).setLink l := by
  cases c with
  | roster sp members =>
    simp only [apply, setRoster, ite_setLink, ← schedule_setLink]
    rfl
  | missLimit sp n =>
    simp only [apply, setMissLimit, ← offers_setLink]
    rfl
  | discardMs | lingerMs | quota | attempts | postBurst | tier | rate | responseMs | backoffMs | settleMs | closedAnswer | pollMs | route
  | defaultSpan | alertReporting | alertEnable => rfl

theorem State.setParameter_setLink (code index : Byte) (value : List Byte) :
    (s.setLink l).setParameter code index value = linked l (s.setParameter code index value) := by
  unfold setParameter
  split
  · rfl
  · rfl
  · simp only [setLink_router]
    split
    · rfl
    · next c _ =>
      have hallows : (s.setLink l).stateAllows c = s.stateAllows c := by cases c <;> rfl
      rw [linked_ite, hallows, apply_setLink]
      rfl

end

/-! ## The receiver and what follows its judgements -/

/-- The same state with the receiver left elsewhere. -/
def State.withReceiver (s : State) (r : Receiver) : State := s.setLink { s.link with receiver := r }

theorem State.withReceiver_ite (c : Prop) [Decidable c] (a b : State) (r : Receiver) :
    (if c then a else b).withReceiver r = if c then a.withReceiver r else b.withReceiver r := apply_ite (State.withReceiver · r) c a b

section
variable (s : State) (r : Receiver)

/-- An owner's act does not meet the receiver. -/
theorem State.act_withReceiver (o : Fin 8) {m : HostMessage} (hm : m ≠ .restart) :
    (s.withReceiver r).act o m = ((s.act o m).1.withReceiver r, (s.act o m).2) := by
  have hget (code index : Byte) : (s.withReceiver r).getValue code index = s.getValue code index := by
    unfold getValue
    split
    · rfl
    · exact congrArg _ (paramValue_setLink s _ _)
    · next i _ => cases i <;> rfl
  have hlinked : (s.withReceiver r).act o m = linked { s.link with receiver := r } (s.act o m) := by
    cases m with
    | request k flag => exact request_setLink s _ k flag
    | post unit item length data => exact acceptPost_setLink s _ o unit item length data
    | span sp a => exact spanAction_setLink s _ sp a
    | set code index value => exact setParameter_setLink s _ code index value
    | get code index => exact congrArg _ (hget code index)
    | restart => exact absurd rfl hm
    | cancelKey | cancelAll | clear | credit => rfl
  rw [hlinked, linked, State.withReceiver, (State.act_link hm).1]

theorem State.frameFailed_withReceiver : (s.withReceiver r).frameFailed = s.frameFailed.withReceiver r := rfl

theorem State.offerFrame_withReceiver (f : Frame) : (s.withReceiver r).offerFrame f = (s.offerFrame f).withReceiver r := by
  unfold offerFrame
  rw [withReceiver_ite]
  rfl

theorem State.takeUnsolicited_withReceiver : (s.withReceiver r).takeUnsolicited = s.takeUnsolicited.withReceiver r := by
  have halerts : (s.withReceiver r).alerts = s.alerts := rfl
  have hnotices : (s.withReceiver r).notices = s.notices := rfl
  unfold takeUnsolicited
  rw [halerts, hnotices]
  cases s.alerts.due with
  | true => rfl
  | false =>
    cases s.notices.entries with
    | nil => rfl
    | cons n rest => exact (withReceiver_ite (1 ≤ s.notices.credit) (s.takeNotice n rest) s r).symm

theorem State.choose_withReceiver : (s.withReceiver r).choose = s.choose.withReceiver r := by
  have hreply : (s.withReceiver r).takeReply = s.takeReply.map (withReceiver · r) := by
    unfold takeReply
    rw [Option.map_map]
    rfl
  have htransmitter : (s.withReceiver r).link.transmitter = s.link.transmitter := rfl
  have hcontrol : (s.withReceiver r).control = s.control := rfl
  unfold choose
  rw [hreply, htransmitter, hcontrol, takeUnsolicited_withReceiver]
  cases s.link.transmitter with
  | sending source bytes => rfl
  | idle => cases s.control.state <;> cases s.takeReply <;> rfl

end

end Sys2Proof.Machine

/-! Bytes from the host (R165 to R168): what the receiver does with bytes it does in the order they arrive. -/

namespace Sys2Proof.Machine

set_option Elab.async false -- one proof after another, as in the files under Laws/

/-! ## The receiver's place and what follows its judgements -/

/-- The receiver is left at a place. Outside SERVING a RESTART has abandoned the reception, and it stays (R155). -/
def State.leaveReceiver (s : State) (r : Receiver) : State := if s.control.state = .serving then s.withReceiver r else s

section
variable {s : State} (r : Receiver)

theorem State.leaveReceiver_of_serving (h : s.control.state = .serving) : s.leaveReceiver r = s.withReceiver r := if_pos h

theorem State.leaveReceiver_of_not_serving (h : s.control.state ≠ .serving) : s.leaveReceiver r = s := if_neg h

end

section
variable (s : State) (r : Receiver)

@[simp] theorem State.leaveReceiver_control : (s.leaveReceiver r).control = s.control := by
  unfold leaveReceiver
  split_ifs <;> rfl

theorem State.leaveReceiver_intake : (s.leaveReceiver r).link.intake = s.link.intake := by
  unfold leaveReceiver
  split_ifs <;> rfl

theorem State.leaveReceiver_replies : (s.leaveReceiver r).link.replies = s.link.replies := by
  unfold leaveReceiver
  split_ifs <;> rfl

@[simp] theorem State.leaveReceiver_leaveReceiver (r' : Receiver) : (s.leaveReceiver r).leaveReceiver r' = s.leaveReceiver r' := by
  by_cases h : s.control.state = .serving
  · rw [leaveReceiver_of_serving r h]
    exact leaveReceiver_of_serving (s := s.withReceiver r) r' h ▸ (leaveReceiver_of_serving r' h).symm
  · rw [leaveReceiver_of_not_serving r h]

/-- What does not meet the receiver and keeps the control state does the same whatever place the receiver is at. -/
theorem State.leaveReceiver_comm {f : State → State} (hf : (f (s.withReceiver r)) = (f s).withReceiver r)
    (hcontrol : (f s).control = s.control) : f (s.leaveReceiver r) = (f s).leaveReceiver r := by
  unfold leaveReceiver
  rw [hcontrol]
  split_ifs
  · exact hf
  · rfl

theorem State.choose_leaveReceiver : (s.leaveReceiver r).choose = s.choose.leaveReceiver r :=
  leaveReceiver_comm s r (choose_withReceiver s r) (choose_control s)

theorem State.frameFailed_leaveReceiver : (s.leaveReceiver r).frameFailed = s.frameFailed.leaveReceiver r :=
  leaveReceiver_comm s r rfl rfl

theorem State.offerFrame_leaveReceiver (f : Frame) : (s.leaveReceiver r).offerFrame f = (s.offerFrame f).leaveReceiver r :=
  leaveReceiver_comm (f := (offerFrame · f)) s r (offerFrame_withReceiver s r f) (by unfold offerFrame; split_ifs <;> rfl)

theorem State.answer_leaveReceiver (f : Frame) : (s.leaveReceiver r).answer f = (s.answer f).leaveReceiver r := by
  by_cases hs : s.control.state = .serving
  · rw [leaveReceiver_of_serving r hs]
    unfold answer
    split
    · exact (leaveReceiver_of_serving (s := s.fill f (.refused .malformed) false) r hs).symm
    · next o m _ =>
      by_cases hm : m = .restart
      · subst hm
        exact (leaveReceiver_of_not_serving r (s := s.startDraining.fill f (.done 0) true) nofun).symm
      · rw [act_withReceiver s r o hm]
        refine (leaveReceiver_of_serving (s := (s.act o m).1.fill f (s.act o m).2 (m == .restart)) r ?_).symm
        exact (congrArg RelayControl.state (act_link (s := s) (o := o) hm).2).trans hs
  · rw [leaveReceiver_of_not_serving r hs, leaveReceiver_of_not_serving]
    unfold answer
    split
    · exact hs
    · next o m _ =>
      by_cases hm : m = .restart
      · subst hm
        nofun
      · exact fun h => hs ((congrArg RelayControl.state (act_link (s := s) (o := o) hm).2).symm.trans h)

theorem State.take_leaveReceiver : (s.leaveReceiver r).take = s.take.leaveReceiver r := by
  unfold take
  rw [leaveReceiver_intake]
  split
  · rfl
  · next f rest _ =>
    have hpop : (s.leaveReceiver r).setLink { (s.leaveReceiver r).link with intake := rest } =
        (s.setLink { s.link with intake := rest }).leaveReceiver r :=
      leaveReceiver_comm (f := fun s => s.setLink { s.link with intake := rest }) s r rfl rfl
    rw [hpop, answer_leaveReceiver]

theorem State.takes_leaveReceiver (n : Nat) : State.takes n (s.leaveReceiver r) = (State.takes n s).leaveReceiver r := by
  induction n generalizing s with
  | zero => rfl
  | succ n ih =>
    have hcan : (s.leaveReceiver r).canTake = s.canTake := by
      rw [canTake, canTake, leaveReceiver_control, leaveReceiver_intake, leaveReceiver_replies]
    rw [takes, takes, hcan, take_leaveReceiver, ih]
    split_ifs <;> rfl

theorem State.serve_leaveReceiver : (s.leaveReceiver r).serve = s.serve.leaveReceiver r := by
  rw [serve, serve, leaveReceiver_intake, takes_leaveReceiver, choose_leaveReceiver]

theorem State.judged_leaveReceiver (j : Judged) : (s.leaveReceiver r).judged j = (s.judged j).leaveReceiver r := by
  unfold judged
  rw [leaveReceiver_control]
  split_ifs
  · cases j with
    | failed => simp only [frameFailed_leaveReceiver, serve_leaveReceiver]
    | good f => simp only [offerFrame_leaveReceiver, serve_leaveReceiver]
  · rfl

theorem State.foldl_judged_leaveReceiver (js : List Judged) :
    js.foldl State.judged (s.leaveReceiver r) = (js.foldl State.judged s).leaveReceiver r := by
  induction js generalizing s with
  | nil => rfl
  | cons j js ih => rw [List.foldl_cons, judged_leaveReceiver, ih, List.foldl_cons]

end

theorem State.foldl_judged_of_not_serving {s : State} (h : s.control.state ≠ .serving) (js : List Judged) :
    js.foldl State.judged s = s := by
  induction js with
  | nil => rfl
  | cons j js ih => rw [List.foldl_cons, show s.judged j = s from if_neg h, ih]

/-! ## Bytes in order -/

theorem judgeComplete_append {l : Byte} {more : List Byte} (h : l.toNat + 2 ≤ more.length) (behind : List Byte) :
    judgeComplete l (more ++ behind) = judgeComplete l more := by
  unfold judgeComplete
  rw [List.take_append_of_le_length (by omega), List.drop_append_of_le_length (by omega)]
  have hlength : 2 ≤ (more.drop l.toNat).length := by simp; omega
  match hd : more.drop l.toNat, hlength with
  | c1 :: c0 :: rest, _ => rcases more.take l.toNat with _ | ⟨kind, _ | ⟨sequence, _ | ⟨originator, fields⟩⟩⟩ <;> rfl

/-- R165, R168: the bytes behind an unfinished examination are examined with the bytes that it left. -/
theorem examine_append (gap : Bool) (xs ys : List Byte) {n : Nat} (h : n ≤ xs.length) :
    examine gap n (xs ++ ys) =
      ((examine false n xs).1 ++ (examine gap 0 ((examine false n xs).2.unresolved ++ ys)).1,
        (examine gap 0 ((examine false n xs).2.unresolved ++ ys)).2) := by
  induction xs generalizing n with
  | nil =>
    obtain rfl : n = 0 := by simpa using h
    simp [Receiver.unresolved]
  | cons b rest ih =>
    cases n with
    | succ n =>
      rw [List.cons_append, examine_skip_cons, examine_skip_cons]
      exact ih (by simpa using h)
    | zero =>
      by_cases hb : b = Config.syncByte
      case neg =>
        rw [List.cons_append, examine_other gap hb, examine_other false hb]
        exact ih (Nat.zero_le _)
      case pos =>
        subst hb
        cases rest with
        | nil => simp [examine_sync_alone, Receiver.unresolved]
        | cons l more =>
          have hagain := ih (Nat.zero_le _)
          rw [List.cons_append] at hagain
          rw [List.cons_append, List.cons_append]
          by_cases hok : lengthByteOk l = true
          case neg =>
            rw [Bool.not_eq_true] at hok
            rw [examine_badLength gap hok, examine_badLength false hok, hagain]
            rfl
          case pos =>
            by_cases hmore : l.toNat + 2 ≤ more.length
            case neg =>
              rw [examine_incomplete false hok (Nat.not_le.mp hmore)]
              rfl
            case pos =>
              have hlonger : l.toNat + 2 ≤ (more ++ ys).length := by simp; omega
              cases hj : judgeComplete l more with
              | failed =>
                rw [examine_failed gap hok hlonger ((judgeComplete_append hmore ys).trans hj), examine_failed false hok hmore hj, hagain]
                rfl
              | good f =>
                have honward := ih (n := l.toNat + 3) (by simp; omega)
                rw [List.cons_append] at honward
                rw [examine_good gap hok hlonger ((judgeComplete_append hmore ys).trans hj), examine_good false hok hmore hj, honward]
                rfl

/-- The receiver examines bytes from HUNTING: what it judges is taken in order, and it stays where they leave it. -/
def State.examined (s : State) (gap : Bool) (bytes : List Byte) : State :=
  ((examine gap 0 bytes).1.foldl State.judged s).leaveReceiver (examine gap 0 bytes).2

theorem State.examined_of_not_serving {s : State} (h : s.control.state ≠ .serving) (gap : Bool) (bytes : List Byte) :
    s.examined gap bytes = s := by
  rw [examined, foldl_judged_of_not_serving h, leaveReceiver_of_not_serving _ h]

theorem State.examined_leaveReceiver (s : State) (r : Receiver) (gap : Bool) (bytes : List Byte) :
    (s.leaveReceiver r).examined gap bytes = s.examined gap bytes := by
  rw [examined, foldl_judged_leaveReceiver, leaveReceiver_leaveReceiver, examined]

theorem State.receiverEvent_eq {s : State} (h : s.control.state = .serving) (gap : Bool) (bytes : List Byte) :
    s.receiverEvent gap bytes = s.examined gap bytes :=
  (congrArg ((examine gap 0 bytes).1.foldl State.judged) (leaveReceiver_of_serving _ h).symm).trans (foldl_judged_leaveReceiver s _ _)

theorem State.receive_eq (s : State) (bytes : List Byte) : s.receive bytes = s.examined false (s.link.receiver.unresolved ++ bytes) := by
  unfold receive
  split_ifs with h
  · exact receiverEvent_eq h _ _
  · exact (examined_of_not_serving h _ _).symm

theorem State.gapExceeded_eq (s : State) : s.gapExceeded = s.examined true s.link.receiver.unresolved := by
  unfold gapExceeded
  split
  · next hr =>
    rw [hr, Receiver.unresolved, examined, examine_nil]
    unfold leaveReceiver
    rw [← hr]
    exact (ite_self s).symm
  · next held hr =>
    rw [hr]
    split_ifs with h
    · exact receiverEvent_eq h _ _
    · exact (examined_of_not_serving h _ _).symm

/-- Bytes are examined in the order they arrive, with those that the bytes before them left unresolved. -/
theorem State.examined_append (s : State) (gap : Bool) (xs ys : List Byte) :
    s.examined gap (xs ++ ys) = (s.examined false xs).examined gap ((s.examined false xs).link.receiver.unresolved ++ ys) := by
  by_cases h : ((examine false 0 xs).1.foldl State.judged s).control.state = .serving
  · have hreceiver : (s.examined false xs).link.receiver = (examine false 0 xs).2 := by
      rw [examined, leaveReceiver_of_serving _ h]
      rfl
    rw [hreceiver]
    conv_rhs => rw [examined.eq_1 s, examined_leaveReceiver]
    rw [examined, examined, examine_append gap xs ys (Nat.zero_le _), List.foldl_append]
  · have hstays : s.examined false xs = (examine false 0 xs).1.foldl State.judged s := leaveReceiver_of_not_serving _ h
    rw [hstays, examined_of_not_serving h, examined, examine_append gap xs ys (Nat.zero_le _), List.foldl_append,
      foldl_judged_of_not_serving h, leaveReceiver_of_not_serving _ h]

theorem State.receive_append (s : State) (xs ys : List Byte) : s.receive (xs ++ ys) = (s.receive xs).receive ys := by
  rw [receive_eq s xs, receive_eq, receive_eq, ← List.append_assoc, examined_append]

/-- Settles O37, by induction on the bytes: the receiver does with bytes what it does with those before and then those behind. -/
theorem bytesTogetherAreBytesOneByOne : Obligations.BytesTogetherAreBytesOneByOne := by
  intro b bytes
  induction bytes generalizing b with
  | nil => exact fun s => rfl
  | cons c bytes ih =>
    intro s
    exact (congrArg Host.Outcome.next (State.receive_append s [b] (c :: bytes))).trans (ih c (s.receive [b]))

end Sys2Proof.Machine

/-! A byte from the host, a frame that fails, and the gap (R165 to R168). -/

namespace Sys2Proof.Machine

set_option Elab.async false -- one proof after another, as in the files under Laws/

/-- A frame has failed: the receiver is in HUNTING, the failure is counted and raised, and the transmitter chooses (R167, R174). -/
def State.failedFrame (s : State) : State := (s.withReceiver .hunting).frameFailed.choose

theorem State.failedFrame_eq {s : State} (hq : QueuesSound s) (hs : s.control.state = .serving) :
    s.failedFrame = (s.judged .failed).leaveReceiver .hunting := by
  have hcontrol : s.frameFailed.choose.control.state = .serving := (congrArg RelayControl.state (choose_control s.frameFailed)).trans hs
  have hsound : QueuesSound s.frameFailed := hq
  have hjudged : s.judged .failed = s.frameFailed.choose := (if_pos hs).trans (serve_of_sound hsound)
  rw [hjudged, leaveReceiver_of_serving _ hcontrol]
  exact choose_withReceiver s.frameFailed .hunting

theorem State.failedFrame_receiver {s : State} :
    s.failedFrame.link.receiver = .hunting := by
  rw [failedFrame, frameFailed_withReceiver, choose_withReceiver]
  rfl

/-- R167, R168: a frame fails, and the bytes that it held, with those behind them, are examined again. -/
theorem State.examined_failed {s : State} (hq : QueuesSound s) (hs : s.control.state = .serving) {gap : Bool} {bytes again : List Byte}
    (h : examine gap 0 bytes = (.failed :: (examine gap 0 again).1, (examine gap 0 again).2)) :
    s.examined gap bytes = s.failedFrame.examined gap again := by
  rw [failedFrame_eq hq hs, examined_leaveReceiver, examined, examined, h]
  rfl

theorem State.receive_of_hunting {s : State} (h : s.link.receiver = .hunting) (bytes : List Byte) :
    s.receive bytes = s.examined false bytes := by
  rw [receive_eq, h]
  rfl

theorem State.receive_failed {s : State} (hq : QueuesSound s) (hs : s.control.state = .serving) (hr : s.link.receiver = .hunting)
    {bytes again : List Byte} (h : examine false 0 bytes = (.failed :: (examine false 0 again).1, (examine false 0 again).2)) :
    s.receive bytes = s.failedFrame.receive again := by
  rw [receive_of_hunting hr, examined_failed hq hs h, receive_of_hunting (failedFrame_receiver)]

/-- Without a sync byte nothing is begun. -/
theorem examine_of_not_mem (gap : Bool) {bytes : List Byte} (h : Config.syncByte ∉ bytes) : examine gap 0 bytes = ([], .hunting) := by
  induction bytes with
  | nil => exact examine_nil gap 0
  | cons b rest ih =>
    obtain ⟨hb, hrest⟩ := List.ne_and_not_mem_of_not_mem_cons h
    rw [examine_other gap hb.symm, ih hrest]

theorem State.leaveReceiver_self {s : State} {r : Receiver} (h : s.link.receiver = r) : s.leaveReceiver r = s := by
  subst h
  exact ite_self s

theorem State.receive_of_not_mem {s : State} (hr : s.link.receiver = .hunting) {bytes : List Byte} (h : Config.syncByte ∉ bytes) :
    s.receive bytes = s := by
  rw [receive_of_hunting hr, examined, examine_of_not_mem false h]
  exact leaveReceiver_self hr

/-- R165: the sync byte alone begins a frame. -/
theorem State.receive_one {s : State} (hs : s.control.state = .serving) (hr : s.link.receiver = .hunting) (b : Byte) :
    s.receive [b] = if b = Config.syncByte then s.withReceiver (.collecting []) else s := by
  split_ifs with hb
  · subst hb
    rw [receive_of_hunting hr, examined, examine_sync_alone]
    exact leaveReceiver_of_serving _ hs
  · exact receive_of_not_mem hr (by simpa using Ne.symm hb)

theorem lengthByteOk_iff (l : Byte) : lengthByteOk l = true ↔ 3 ≤ l.toNat ∧ l.toNat ≤ 96 := by
  simp [lengthByteOk]

/-- R165: a byte that neither completes the frame nor is a bad length is held. -/
theorem State.receive_held {s : State} (hs : s.control.state = .serving) {held : List Byte} (hr : s.link.receiver = .collecting held)
    (b : Byte) (h : ∀ l more, held ++ [b] = l :: more → 3 ≤ l.toNat ∧ l.toNat ≤ 96 ∧ more.length < l.toNat + 2) :
    s.receive [b] = s.withReceiver (.collecting (held ++ [b])) := by
  rw [receive_eq, hr, Receiver.unresolved, List.cons_append]
  cases hbytes : held ++ [b] with
  | nil => simp at hbytes
  | cons l more =>
    obtain ⟨hlow, hhigh, hmore⟩ := h l more hbytes
    rw [examined, examine_incomplete false ((lengthByteOk_iff l).mpr ⟨hlow, hhigh⟩) hmore]
    exact leaveReceiver_of_serving _ hs

/-- R165: bytes held are bytes that are still to be examined. -/
theorem State.receive_of_collecting {s : State} (hs : s.control.state = .serving) {held : List Byte}
    (hr : s.link.receiver = .collecting held) (b : Byte) :
    s.receive [b] = (s.withReceiver .hunting).receive (Config.syncByte :: held ++ [b]) := by
  rw [receive_of_hunting (s := s.withReceiver .hunting) rfl, ← leaveReceiver_of_serving _ hs, examined_leaveReceiver, receive_eq, hr]
  rfl

/-- R166: two bytes that are not the CRC of those before fail the frame. -/
theorem judgeComplete_of_crc {l : Byte} {held : List Byte} (hlength : held.length = l.toNat + 2)
    (hcrc : held.drop l.toNat ≠ bytes16 (crc16 (l :: held.take l.toNat))) (behind : List Byte) :
    judgeComplete l (held ++ behind) = .failed := by
  rw [judgeComplete_append (by omega)]
  unfold judgeComplete
  have hdrop : (held.drop l.toNat).length = 2 := by simp; omega
  match hd : held.drop l.toNat, hdrop with
  | [c1, c0], _ =>
    have hne : crc16 (l :: held.take l.toNat) ≠ c1 ++ c0 := fun h => hcrc (by rw [hd, h, bytes16_append])
    rcases ht : held.take l.toNat with _ | ⟨kind, _ | ⟨sequence, _ | ⟨originator, fields⟩⟩⟩
    case cons.cons.cons => exact if_neg (ht ▸ hne)
    all_goals rfl

theorem examine_badCrc {l : Byte} (hlow : 3 ≤ l.toNat) (hhigh : l.toNat ≤ 96) {held : List Byte} (hlength : held.length = l.toNat + 2)
    (hcrc : held.drop l.toNat ≠ bytes16 (crc16 (l :: held.take l.toNat))) (behind : List Byte) :
    examine false 0 (Config.syncByte :: l :: (held ++ behind)) =
      (.failed :: (examine false 0 (l :: (held ++ behind))).1, (examine false 0 (l :: (held ++ behind))).2) :=
  examine_failed false ((lengthByteOk_iff l).mpr ⟨hlow, hhigh⟩) (by simp; omega) (judgeComplete_of_crc hlength hcrc behind)

/-- R167, R168: after the gap a frame in reception fails, and what it held is examined again. -/
theorem examine_gap {held : List Byte} (h : ∀ l more, held = l :: more → 3 ≤ l.toNat ∧ l.toNat ≤ 96 ∧ more.length < l.toNat + 2) :
    examine true 0 (Config.syncByte :: held) = (.failed :: (examine true 0 held).1, (examine true 0 held).2) := by
  cases held with
  | nil => rw [examine_sync_alone, examine_nil]; rfl
  | cons l more =>
    obtain ⟨hlow, hhigh, hmore⟩ := h l more rfl
    exact examine_incomplete true ((lengthByteOk_iff l).mpr ⟨hlow, hhigh⟩) hmore

section
variable {s : State} (hq : QueuesSound s) (hr : ReceiverSound s) (hs : s.control.state = .serving) {held : List Byte}
  (hheld : s.link.receiver = .collecting held)
include hq hr hs hheld

theorem State.gapExceeded_of_collecting : s.gapExceeded = s.failedFrame.examined true held := by
  rw [gapExceeded_eq, hheld]
  exact examined_failed hq hs (examine_gap fun l more h => hr l more (h ▸ hheld))

theorem State.gapExceeded_of_not_mem (h : Config.syncByte ∉ held) : s.gapExceeded = s.failedFrame := by
  rw [gapExceeded_of_collecting hq hr hs hheld, examined, examine_of_not_mem true h]
  exact leaveReceiver_self failedFrame_receiver

/-- R168: after a gap a frame that the bytes held leave unfinished fails by gap in its turn. -/
theorem State.gapExceeded_again : s.gapExceeded = (s.failedFrame.receive held).gapExceeded := by
  rw [gapExceeded_of_collecting hq hr hs hheld, receive_of_hunting failedFrame_receiver, gapExceeded_eq]
  have h := examined_append s.failedFrame true held []
  rwa [List.append_nil, List.append_nil] at h

end

/-- Settles O38: the dropped byte, the held byte, the failed frame and the gap, each by its rule above. -/
theorem bytesAreHeldAndFailedFramesCounted : Obligations.BytesAreHeldAndFailedFramesCounted := by
  intro b l held behind s
  refine ⟨fun hs => ?_, fun hs hr => ?_, fun hs hr h => ?_, fun hs hr => ?_, fun hq hs hr hl => ?_, fun hq hs hr hlow hhigh hlength hcrc => ?_,
    fun hq hsound hs hr => ⟨fun h => ?_, _, rfl, ?_⟩, fun hr h => ?_, fun hr => ?_⟩
  · exact congrArg Host.Outcome.next (if_neg hs)
  · exact congrArg Host.Outcome.next (State.receive_one hs hr b)
  · exact congrArg Host.Outcome.next (State.receive_held hs hr b h)
  · exact congrArg Host.Outcome.next (State.receive_of_collecting hs hr b)
  · have hbad : lengthByteOk l = false := by
      rw [← Bool.not_eq_true, lengthByteOk_iff]
      omega
    exact congrArg Host.Outcome.next (State.receive_failed hq hs hr (examine_badLength false hbad behind))
  · exact congrArg Host.Outcome.next (State.receive_failed hq hs hr (examine_badCrc hlow hhigh hlength hcrc behind))
  · exact congrArg Host.Outcome.next (State.gapExceeded_of_not_mem hq hsound hs hr h)
  · exact congrArg Host.Outcome.next (State.gapExceeded_again hq hsound hs hr)
  · exact congrArg Host.Outcome.next (State.receive_of_not_mem hr h)
  · refine congrArg Host.Outcome.next ?_
    rw [State.gapExceeded, hr]

end Sys2Proof.Machine
